-- ==== Sys2Proof/Word.lean ====
section
/-! DEFINITION. The byte, the one bit-level type the whole model shares.

The 520 speaks of bits in few places: the bytes of a frame, of a card image, of the store; the 32-bit notice mask and
event set; the card digest's keys and messages.  Everything else it names is a count, a name or a list, and is held as
one. -/

namespace Sys2Proof

/-- Eight bits: what the control link carries (R196) and what one store address holds (R164). -/
abbrev Byte := BitVec 8

end Sys2Proof
end

