-- ==== Sys2Proof/Syntax.lean ====
section
/-! DEFINITION. The commands: one constructor of `Instr` for every row of spec/opcode_table.json, with the row's operands.

The 520 is a block, not a processor.  A row is a request the port takes, a report of a front-end, a card's answer, a
sensor's change, a timer running out, a store operation ending, or an internal step that the manual makes at the first
moment its conditions hold. -/

namespace Sys2Proof

/-- A physical reader link (R1). -/
inductive Link where
  | zero | one
  deriving DecidableEq, Repr, Inhabited

/-- A reader: U on the unpaid side (entry), P on the paid side (exit) (R1). -/
inductive Reader where
  | U | P
  deriving DecidableEq, Repr, Inhabited

/-- A direction of passage: from the unpaid to the paid side, or back (00_scope.md). -/
inductive Direction where
  | inbound | outbound
  deriving DecidableEq, Repr, Inhabited

/-- The gate mode (R85). -/
inductive GateMode where
  | normal | manual | emergency | outOfService
  deriving DecidableEq, Repr, Inhabited

/-- The aisle direction setting (R89). -/
inductive AisleDirection where
  | entryOnly | exitOnly | both
  deriving DecidableEq, Repr, Inhabited

/-- What a `leaf` request names (R126). -/
inductive LeafRequest where
  | open | close | free
  deriving DecidableEq, Repr, Inhabited

/-- The three beams (R97). -/
inductive Beam where
  | A | S | B
  deriving DecidableEq, Repr, Inhabited

/-- The two leaves (R112). -/
inductive LeafSide where
  | left | right
  deriving DecidableEq, Repr, Inhabited

/-- The two ends of a leaf's swing (R113). -/
inductive LeafEnd where
  | openEnd | closedEnd
  deriving DecidableEq, Repr, Inhabited

/-- A filtered input line: a beam, an end switch or the emergency line (R85, R97, R113). -/
inductive Sensor where
  | beam (b : Beam)
  | endSwitch (side : LeafSide) (e : LeafEnd)
  | emergencyLine
  deriving DecidableEq, Repr

/-- The card's status in its IDENTIFY answer (R4). -/
inductive CardStatus where
  | active | blocked
  deriving DecidableEq, Repr, Inhabited

/-- What a card answers to IDENTIFY (R4). -/
structure CardId where
  number     : Nat
  cls        : Nat
  status     : CardStatus
  keyVersion : Nat
  counter    : Nat
  deriving DecidableEq, Repr, Inhabited

/-- What a card answers to WRITE or BLOCK (R4): accepted with its new counter, or rejected. -/
inductive WriteReply where
  | accepted (counter : Nat)
  | rejected
  deriving DecidableEq, Repr

/-- A request's payload as the length test of R200 step 3 finds it: it gives the request's fields, or it does not fit. -/
inductive Payload (α : Type) where
  | fits (fields : α)
  | misfit
  deriving DecidableEq, Repr

/-- The station identity (R173). -/
structure Identity where
  station : Nat
  gate    : Nat
  zone    : Nat
  deriving DecidableEq, Repr, Inhabited

/-- `ldkey`: a slot, a presence byte and, behind a presence byte of 1, a key version and a master key (R206). -/
structure KeyFields where
  slot     : Nat
  presence : Nat
  version  : Nat
  key      : BitVec 128
  deriving DecidableEq, Repr

/-- `stime`: a date and time (R137); also the calendar values of a count (R133). -/
structure DateTime where
  year   : Nat
  month  : Nat
  day    : Nat
  hour   : Nat
  minute : Nat
  second : Nat
  deriving DecidableEq, Repr, Inhabited

/-- `ftpart`: a part index and the part's bytes (R181). -/
structure FarePart where
  index : Nat
  bytes : List Byte
  deriving DecidableEq, Repr

/-- `dlbeg`: the version and count of a full load (R188). -/
structure LoadHeader where
  version : Nat
  count   : Nat
  deriving DecidableEq, Repr

/-- An entry of a deny list: a card number and a deny reason (R26). -/
structure DenyEntry where
  number : Nat
  reason : Nat
  deriving DecidableEq, Repr, Inhabited

/-- `dladd`: the expected version and an entry (R193). -/
structure DenyAdd where
  expected : Nat
  number   : Nat
  reason   : Nat
  deriving DecidableEq, Repr

/-- `dldel`: the expected version and a card number (R193). -/
structure DenyDelete where
  expected : Nat
  number   : Nat
  deriving DecidableEq, Repr

/-- `sgnote`: one sighting made at another gate (R47); `direction` is absent when the payload names neither direction. -/
structure PeerSighting where
  number    : Nat
  counter   : Nat
  station   : Nat
  gate      : Nat
  minute    : Nat
  direction : Option Direction
  seenAt    : Nat
  deriving DecidableEq, Repr

/-- `jread`: a start sequence number and a count (R157). -/
structure JournalRange where
  start : Nat
  count : Nat
  deriving DecidableEq, Repr

/-- The commands.  An operand of type `Option` is `none` where the payload names none of the values the request accepts.
The `ok` of a completion event says whether the store did the physical work asked of it (R164). -/
inductive Instr where
  -- requests, in kind order (section 11.5)
  | identifyPart (p : Payload Unit)
  | setIdentity (p : Payload Identity)
  | lockIdentity (p : Payload Unit)
  | loadKey (p : Payload KeyFields)
  | setParameters (payload : List Byte)
  | readParameters (p : Payload Unit)
  | setGateMode (p : Payload (Option GateMode))
  | setAisleDirection (p : Payload (Option AisleDirection))
  | grantPassage (p : Payload (Option Direction))
  | setLeafTarget (p : Payload (Option LeafRequest))
  | clearLeafFaults (p : Payload Unit)
  | setTime (p : Payload DateTime)
  | alignTime (p : Payload Unit)
  | readTime (p : Payload Unit)
  | loadFareTablePart (p : Payload FarePart)
  | armStagedFareTable (p : Payload Unit)
  | dropStagedFareTable (p : Payload Unit)
  | readFareTableState (p : Payload Unit)
  | beginDenyListLoad (p : Payload LoadHeader)
  | putDenyListEntries (p : Payload (List DenyEntry))
  | endDenyListLoad (p : Payload Unit)
  | addDenyListEntry (p : Payload DenyAdd)
  | deleteDenyListEntry (p : Payload DenyDelete)
  | readDenyListState (p : Payload Unit)
  | readHotList (p : Payload Nat)
  | clearHotListEntry (p : Payload Nat)
  | notePeerSighting (p : Payload PeerSighting)
  | readSighting (p : Payload Nat)
  | readJournal (p : Payload JournalRange)
  | releaseJournal (p : Payload Nat)
  | setNoticeMask (p : Payload (BitVec 32))
  | readStatus (p : Payload Unit)
  | clearEvents (p : Payload (BitVec 32))
  | restart (p : Payload Unit)
  -- the control link
  | unknownKind (kind : Byte)
  | wholeFrame (b : Byte)
  | lengthFieldDiscard (b : Byte)
  | gapLimitExpiry
  | messageSent
  -- supplies and reset
  | powerOn
  | supplyDip
  | resetLine
  | resetEnd
  | startUpScanEnd
  | scanProgramComplete (ok : Bool)
  -- card sessions
  | cardPresent (l : Link)
  | collision (l : Link)
  | cardRemoved (l : Link)
  | sessionStart (r : Reader)
  | identifyAnswer (l : Link) (card : CardId)
  | authenticateAnswer (l : Link) (response : BitVec 64)
  | readAnswer (l : Link) (image : List Byte)
  | intentEntersStaging (r : Reader)
  | pendingRecordEntersStaging (r : Reader)
  | writeAnswer (l : Link) (reply : WriteReply)
  | blockAnswer (l : Link) (reply : WriteReply)
  | queryAnswer (l : Link) (counter : Nat)
  | answerWindowExpiry (r : Reader)
  | outcomeDisplayExpiry (r : Reader)
  | honourWindowExpiry (number : Nat)
  -- the aisle
  | emergencyLineFilteredChange
  | sensorRawChange (at_ : Nat) (sensor : Sensor) (level : Bool)
  | beamFilteredChange (b : Beam)
  | creditExpiry
  | closeDelayExpiry
  | loiter
  | beamStuck (b : Beam)
  | pendingSettingsTakeEffect
  -- the leaf drive
  | endSwitchFilteredChange (side : LeafSide) (e : LeafEnd)
  | deadtimeExpiry (side : LeafSide)
  | brakeIntervalExpiry (side : LeafSide)
  | motionLimitExpiry (side : LeafSide)
  | inrushBlankingExpiry (side : LeafSide)
  | currentSample (side : LeafSide) (milliamps : Nat)
  | reopenHoldExpiry (side : LeafSide)
  | supplyWarningStart
  | supplyWarningEnd
  -- the clock and the session boundary
  | secondTick
  | fareTableActivation
  | denyListLoadTest
  -- the store
  | storeOperationTimeout
  | journalOperationComplete (ok : Bool)
  | floorProgramComplete (ok : Bool)
  | journalSectorEraseComplete (ok : Bool)
  | hotListRewriteComplete (ok : Bool)
  | controlRecordWriteComplete (ok : Bool)
  | lockEntryProgramComplete (ok : Bool)
  | deltaSlotProgramComplete (ok : Bool)
  | armJobOperationComplete (ok : Bool)
  | fareMarkJobComplete (ok : Bool)
  | withdrawalComplete (ok : Bool)
  | bankJobOperationComplete (ok : Bool)
  | denyMarkJobComplete (ok : Bool)
  | logEraseComplete (ok : Bool)
  -- the rest of the table
  | linkByteReceived (b : Byte)
  | startUpScanStepEnd
  | backupSupplyLoss
  | mainSupplyLoss
  deriving DecidableEq, Repr

end Sys2Proof
end

