-- ==== Sys2Proof/Machine/State.lean ====
section
/-! DEFINITION. The state of the 520, block by block (00_scope.md, "Block overview"), the reasons a step can stop, and
the state after reset.

Every interval timer is held as its deadline on the interval clock `now`, in microseconds (R141); `none` is a stopped
timer.  Tables, lists and queues are lists in the order the manual gives them.  INVENTORY.md lists every field with its
rule and its reset value. -/

namespace Sys2Proof.Machine

/-! ## Reasons a step can stop -/

/-- Nothing in the manual stops the 520: every command has an effect, or is turned away with a status, or finds nothing
to do.  No store address comes from outside, so none can lie outside the store.  There is no fault to raise. -/
inductive Fault where
  deriving DecidableEq, Repr

/-- Why a command has no meaning in the model. -/
inductive Refusal where
  /-- Raised by `exec`'s arm of a command whose meaning is not written.  Safe.  No arm raises it now. -/
  | notModelled (mnemonic : String)
  deriving DecidableEq, Repr

/-! ## Power, reset and time -/

/-- The reset kinds (R213). -/
inductive ResetCause where
  | powerOn | supplyDip | resetLine | restart
  deriving DecidableEq, Repr

/-- Where the 520 stands between supply loss and service (R169, R177, R213). -/
inductive Phase where
  | off        -- the main supply is absent
  | inReset    -- a reset has begun and has not ended
  | scanning   -- the start-up scan runs
  | running
  deriving DecidableEq, Repr

/-- An interval timer (R141): the moment it runs out, or stopped. -/
abbrev Timer := Option Nat

/-- The Fare Clock (R132) and its backup domain (R135). -/
structure Clock where
  seconds  : Nat
  valid    : Bool
  loss     : Bool
  /-- The interval-clock moment of the next second boundary (R132). -/
  boundary : Nat
  deriving DecidableEq, Repr

/-! ## Cards and sessions -/

/-- The presence condition of a physical link (R2). -/
inductive Presence where
  | noCard | multiple | newCard | doneCard
  deriving DecidableEq, Repr

/-- The states of a session (R6). -/
inductive SessionState where
  | closed | ready | identifying | authenticating | reading | awaitIntent | writing | querying | holdoff
  deriving DecidableEq, Repr

/-- The outcomes of a session (R22), in the order of their codes (section 8.8). -/
inductive CardOutcome where
  | admittedEntry | admittedExit | honoured | emergencyExit | insufficient | noEntry | alreadyExited | passback
  | cardBlocked | denyListed | cloneListed | cloneDetected | counterfeit | keyUnknown | cardDataError | cardExhausted
  | aisleBusy | emergency | aborted | writeFailed | torn | lost
  deriving DecidableEq, Repr

/-- The indicator codes of a reader (R21). -/
inductive Indicator where
  | closed | stop | seeStaff | busy | go | wait | ready
  deriving DecidableEq, Repr

/-- The reason that the 520 gives with a STOP (R9). -/
inductive StopReason where
  | multipleCards
  deriving DecidableEq, Repr

/-- What the 520 sends a reader's front-end: the indicator code, and its reason where R9 gives one (R9, R21). -/
structure Indication where
  code   : Indicator
  reason : Option StopReason
  deriving DecidableEq, Repr

/-- The verdict of the list check (R10). -/
inductive ListVerdict where
  | denyListed | cloneListed
  deriving DecidableEq, Repr

/-- A gate stamp: station, gate, fare minute (00_scope.md). -/
structure Stamp where
  station : Nat
  gate    : Nat
  minute  : Nat
  deriving DecidableEq, Repr, Inhabited

/-- The fields of a card image (section 1.3), the record check apart.  The trip state is 0 NONE, 1 OPEN, 2 CLOSED. -/
structure CardImage where
  format          : Nat
  trip            : Nat
  balance         : Int
  originStation   : Nat
  originZone      : Nat
  journeyZone     : Nat
  entryMinute     : Nat
  journeyStation  : Nat
  journeyStart    : Nat
  band            : Nat
  continuations   : Nat
  journeyCharged  : Nat
  lastExitStation : Nat
  lastExitMinute  : Nat
  serviceDay      : Nat
  dayTotal        : Nat
  passPresent     : Nat
  passLow         : Nat
  passHigh        : Nat
  writerGate      : Nat
  passFirst       : Nat
  passLast        : Nat
  writerStation   : Nat
  writerMinute    : Nat
  deriving DecidableEq, Repr, Inhabited

/-- The kinds of journal record (R146), in the order of their codes (section 8.8). -/
inductive JournalKind where
  | entry | exit | penalty | emergencyExit | block | refused | resolved | grant | unused | evasion
  deriving DecidableEq, Repr, Inhabited

/-- What the Fare Engine hands the session on an admission (R71). -/
structure Decision where
  /-- The new image, complete but for its record check (R5). -/
  image     : CardImage
  kind      : JournalKind
  unclosed  : Bool
  fare      : Nat
  charge    : Nat
  direction : Direction
  /-- The fare minute at which the decision was taken (R51). -/
  minute    : Nat
  deriving DecidableEq, Repr

/-- A journal record (section 8.8), its status and check apart. -/
structure JournalRecord where
  seq             : Nat
  kind            : JournalKind
  reader          : Reader
  reason          : Nat
  minute          : Nat
  number          : Nat
  cls             : Nat
  unclosed        : Bool
  referenced      : Option Nat
  counterBefore   : Nat
  counterAfter    : Nat
  fare            : Nat
  charged         : Nat
  journeyStation  : Nat
  balance         : Int
  journeyZone     : Nat
  thisZone        : Nat
  band            : Nat
  denyReason      : Nat
  dayTotal        : Nat
  journeyCharged  : Nat
  fareVersion     : Nat
  denyVersion     : Nat
  station         : Nat
  gate            : Nat
  second          : Nat
  trip            : Nat
  continuations   : Nat
  deriving DecidableEq, Repr, Inhabited

/-- A card exchange outstanding (R3, R4), with what the 520 sent. -/
inductive Exchange where
  | identify
  | authenticate (challenge : BitVec 64)
  | read
  | write (image : List Byte) (expected : Nat)
  | query
  | block (expected : Nat)
  deriving DecidableEq, Repr

/-- A reader's session record (R6).  The reserved credit is the RESERVED credit of this reader in the credit queue, and
the pending record slot is this reader's part of the journal's waiting line; each is stored once, there. -/
structure Session where
  state          : SessionState
  card           : Option CardId
  noAnswerUsed   : Bool
  mismatchUsed   : Bool
  /-- The one resend of IDENTIFY, READ or QUERY is used (R3). -/
  resendUsed     : Bool
  /-- The challenges sent in this session, which no later one may equal (R12). -/
  challenges     : List (BitVec 64)
  verdict        : Option ListVerdict
  denyReason     : Nat
  /-- The deny list version of R27: that of the list check, and from the decision step on that of the decision. -/
  denyVersion    : Option Nat
  /-- The fare table version of the decision step (R14). -/
  fareVersion    : Option Nat
  twin           : Bool
  image          : Option CardImage
  decision       : Option Decision
  blockPath      : Bool
  withheld       : Bool
  /-- The intent waiting in AWAIT_INTENT for room in the staging queue (R16). -/
  intent         : Option JournalRecord
  intentSeq      : Option Nat
  /-- The honour deadline of the WRITE sent (R75). -/
  honourDeadline : Nat
  outcome        : Option CardOutcome
  exchange       : Option Exchange
  answerWindow   : Timer
  display        : Timer
  /-- The STOP shown after a COLLISION in READY (R9). -/
  collision      : Timer
  deriving DecidableEq, Repr

/-- The Card Link Unit: a session per reader, a presence condition and a cards-in-session entry per link (R2, R6, R10). -/
structure Cards where
  sessionU  : Session
  sessionP  : Session
  presence0 : Presence
  presence1 : Presence
  inSession0 : Option Nat
  inSession1 : Option Nat
  deriving DecidableEq, Repr

/-! ## Screening -/

/-- What a detection found (R32). -/
inductive Criterion where
  | auth | twin | regression | diverged
  deriving DecidableEq, Repr, Inhabited

/-- An entry of the hot list (R32). -/
structure HotEntry where
  number    : Nat
  criterion : Criterion
  minute    : Nat
  since     : Nat
  deriving DecidableEq, Repr, Inhabited

/-- A key slot (R29). -/
structure KeySlot where
  version : Nat
  key     : BitVec 128
  deriving DecidableEq, Repr

/-- Whether a sighting was made here or received (R40). -/
inductive SightingSource where
  | localGate | peer
  deriving DecidableEq, Repr

/-- An entry of the sighting table (R40). -/
structure Sighting where
  number    : Nat
  counter   : Nat
  stamp     : Stamp
  direction : Direction
  seenAt    : Nat
  source    : SightingSource
  deriving DecidableEq, Repr

/-- The case a peer sighting was applied in (R48). -/
inductive SightingResult where
  | own | aged | inserted | replaced | refreshed | diverged | older
  deriving DecidableEq, Repr

/-- The Card Check Unit (chapter 2). -/
structure Check where
  denyList    : List DenyEntry
  denyVersion : Nat
  hotList     : List HotEntry
  key0        : Option KeySlot
  key1        : Option KeySlot
  sightings   : List Sighting
  deriving DecidableEq, Repr

/-- An entry of the Recovery List (R75). -/
structure RecoveryEntry where
  number         : Nat
  before         : Nat
  after          : Nat
  seq            : Nat
  direction      : Direction
  minute         : Nat
  stamp          : Stamp
  honourDeadline : Nat
  deriving DecidableEq, Repr

/-! ## The fare table -/

/-- An entry of the tariff schedule (R142); month and day 0 and weekday 7 stand for any. -/
structure ScheduleEntry where
  used      : Nat
  band      : Nat
  month     : Nat
  day       : Nat
  weekday   : Nat
  hourFirst : Nat
  hourLast  : Nat
  deriving DecidableEq, Repr, Inhabited

/-- The fields of a fare table (sections 3.1 and 10.1). -/
structure FareTable where
  version             : Nat
  effective           : Nat
  step                : Nat
  rollover            : Nat
  maxContinuations    : Nat
  bandPercent         : List Nat
  classPercent        : List Nat
  cap                 : List Nat
  overstayLimit       : Nat
  overstaySurcharge   : Nat
  entryMinimum        : Nat
  overdraft           : Nat
  tripExpiry          : Nat
  penalty             : Nat
  continuationWindow  : Nat
  passbackInterval    : Nat
  sameStationGrace    : Nat
  /-- 256 entries, origin zone o and exit zone e at 16 × o + e. -/
  fareMatrix          : List Nat
  schedule            : List ScheduleEntry
  deriving DecidableEq, Repr

/-! ## The aisle -/

/-- Who a credit is for (R92). -/
inductive CreditSource where
  | card | staff
  deriving DecidableEq, Repr

/-- A credit's state (R92). -/
inductive CreditState where
  | reserved | active
  deriving DecidableEq, Repr

/-- A credit of the queue (R92). -/
structure Credit where
  direction : Direction
  source    : CreditSource
  state     : CreditState
  seq       : Option Nat
  reader    : Option Reader
  deriving DecidableEq, Repr

/-- The window timer (R94). -/
inductive WindowTimer where
  | stopped
  | running (deadline : Nat)
  | held (remaining : Nat)
  deriving DecidableEq, Repr

/-- The phases of the passage tracker (R98). -/
inductive TrackPhase where
  | clear | inA | inAB | inB | outB | outBA | outA
  deriving DecidableEq, Repr

/-- A filtered input line (R85, R97, R113): its raw level, the level taken, and the filter's running measure. -/
structure Filtered where
  raw   : Bool
  level : Bool
  timer : Timer
  deriving DecidableEq, Repr

/-- A beam (R97) with its stuck state and measure (R103). -/
structure BeamState where
  line    : Filtered
  stuck   : Bool
  measure : Timer
  deriving DecidableEq, Repr

/-- The leaf target (R104). -/
inductive Target where
  | open | closed | free
  deriving DecidableEq, Repr

/-- The Aisle Controller (chapter 5). -/
structure Aisle where
  mode             : GateMode
  returnMode       : GateMode
  hostEmergency    : Bool
  emergencyLine    : Filtered
  direction        : AisleDirection
  pendingDirection : Option AisleDirection
  claim            : Option Direction
  credits          : List Credit
  window           : WindowTimer
  closeDelay       : Timer
  phase            : TrackPhase
  leadPast         : Bool
  leadStart        : Option Nat
  followerStart    : Option Nat
  /-- The passage limit's measure for the current lead; stopped once LOITER is raised (R102). -/
  passageLimit     : Timer
  inboundCount     : Nat
  outboundCount    : Nat
  unpaidCount      : Nat
  beamA            : BeamState
  beamS            : BeamState
  beamB            : BeamState
  /-- The leaf target of R104. -/
  target           : Target
  deriving DecidableEq, Repr

/-! ## The leaf drive -/

/-- The leaf states (R112). -/
inductive LeafState where
  | free | closed | opening | open | closing | braking | stalled | heldOpen
  deriving DecidableEq, Repr

/-- The bridge states (R109). -/
inductive Bridge where
  | off | driveOpen | driveClose | brake
  deriving DecidableEq, Repr

/-- The after-brake actions (R117). -/
inductive AfterBrake where
  | open | close | free | stall
  deriving DecidableEq, Repr

/-- A leaf record (R112), with its end switches (R113) and the timers of its bridge. -/
structure Leaf where
  state        : LeafState
  bridge       : Bridge
  /-- The moment from which the bridge has been OFF (R110). -/
  offSince     : Nat
  /-- The deadtime running before the next bridge state, or before the end of BRAKING (R110, R117). -/
  deadtime     : Timer
  action       : Option AfterBrake
  /-- In BRAKING: the brake interval has run (R117). -/
  braked       : Bool
  reversal     : Bool
  count        : Nat
  /-- The drive start from which the motion timer runs (R115). -/
  motionStart  : Option Nat
  motionLimit  : Timer
  blanking     : Timer
  /-- The moment of the next current sample (R121, R141). -/
  sampling     : Timer
  window       : List Nat
  brake        : Timer
  reopen       : Timer
  lastOpen     : Nat
  lastClose    : Nat
  openSwitch   : Filtered
  closedSwitch : Filtered
  deriving DecidableEq, Repr

/-- The Leaf Drive (chapter 6). -/
structure Drive where
  left    : Leaf
  right   : Leaf
  /-- The target in force (section 6.3). -/
  inForce : Target
  deriving DecidableEq, Repr

/-! ## The journal -/

/-- The statuses of a record (R148). -/
inductive RecordStatus where
  | blank | intent | complete | uncertain | void | final | damaged
  deriving DecidableEq, Repr

/-- Whose session hears that a staged record was programmed (R149, R152). -/
inductive RecordOwner where
  | single                 -- a single-step record
  | session (r : Reader)   -- the intent of the session in AWAIT_INTENT
  | voidOwed               -- an intent whose session ended before it was programmed
  deriving DecidableEq, Repr

/-- An entry of the staging queue (R150); the damaged mark is the one of R152. -/
inductive StagingEntry where
  | record (rec : JournalRecord) (pos : Nat) (owner : RecordOwner)
  | mark (pos : Nat) (status : RecordStatus) (prepared : Option RecoveryEntry)
  | damagedMark (pos : Nat)
  deriving DecidableEq, Repr

/-- An assigned position of the ring as the journal knows it. -/
structure Position where
  pos        : Nat
  /-- The record's sequence number, where the journal knows one. -/
  seq        : Option Nat
  status     : RecordStatus
  /-- Its record program has been reported (R157). -/
  reported   : Bool
  unverified : Bool
  released   : Bool
  deriving DecidableEq, Repr

/-- The states of a journal sector (R155). -/
inductive SectorState where
  | erased | current | filled | waiting
  deriving DecidableEq, Repr

/-- What waits for room in the staging queue (R151): a session's intent, or a record in its pending record slot. -/
inductive WaitItem where
  | intent
  | record (rec : JournalRecord)
  deriving DecidableEq, Repr

/-- A member of the waiting line, in the order in which they began to wait (R151). -/
structure Waiting where
  reader : Reader
  item   : WaitItem
  deriving DecidableEq, Repr

/-- The journal's erase work (R159). -/
inductive EraseWork where
  | idle
  | held                                         -- after a failed erase, until the next `jrel`
  | floor (sector : Nat) (value : Nat) (stage : Nat)
  | erase (sector : Nat)
  deriving DecidableEq, Repr

/-- The Transaction Journal (chapter 8).  Sectors and positions are numbered from the ring's first, store sector 39. -/
structure Journal where
  staging          : List StagingEntry
  reservations     : Nat
  waiting          : List Waiting
  nextSeq          : Nat
  /-- The newest sequence number assigned (R158), and that of the newest record programmed (R157). -/
  newestAssigned   : Nat
  newestProgrammed : Nat
  floor            : Nat
  sectors          : List SectorState
  writePos         : Nat
  /-- The assigned positions, oldest first. -/
  positions        : List Position
  eraseWork        : EraseWork
  deriving DecidableEq, Repr

/-! ## The store -/

/-- A memory: (address, byte) pairs, addresses strictly rising, no byte equal to what an unlisted address reads as. -/
abbrev Memory := List Host.Cell

/-- The operation kinds (R164). -/
inductive OpKind where
  | recordProgram | statusMark | pageProgram | sectorErase
  deriving DecidableEq, Repr

/-- What an operation does to the store. -/
inductive StoreAction where
  | program (kind : OpKind) (addr : Nat) (bytes : List Byte)
  | erase (sector : Nat)
  deriving DecidableEq, Repr

/-- The owner of an operation (R166). -/
inductive OpOwner where
  | staging
  | floorWrite
  | journalErase (sector : Nat)
  | job
  | scan
  deriving DecidableEq, Repr

/-- The operation in progress.  `next` is the owner's step after it, or none when it is the owner's last.  The deadline
stands still, and is absent, while a supply warning suspends the operation (R168). -/
structure StoreOp where
  action   : StoreAction
  owner    : OpOwner
  next     : Option Nat
  deadline : Timer
  deriving DecidableEq, Repr

/-- The two banks of a table or a list. -/
inductive Bank where
  | A | B
  deriving DecidableEq, Repr

/-- The control records that a job writes (R171). -/
inductive ControlKind where
  | identity | key | settings
  deriving DecidableEq, Repr

/-- A delta as the log keeps it (R194). -/
structure Delta where
  add     : Bool
  number  : Nat
  reason  : Nat
  version : Nat
  deriving DecidableEq, Repr

/-- The jobs of the arbiter (R166). -/
inductive JobKind where
  | control (k : ControlKind)
  | lockEntry
  | deltaSlot (slot : Nat) (d : Delta)
  | hotRewrite (snapshot : List HotEntry)
  | arm (bank : Bank)
  | fareMark (bank : Bank) (version : Nat)
  | withdrawal (bank : Bank)
  | denyBank (bank : Bank)
  | denyMark (bank : Bank) (version : Nat)
  | logErase
  deriving DecidableEq, Repr

/-- A job: its kind, its next step, and whether an operation of it has been started. -/
structure Job where
  kind    : JobKind
  step    : Nat
  running : Bool
  deriving DecidableEq, Repr

/-- The Persistent Store (chapter 9).  The one-time row is held behind the 256 sectors (log entry 8). -/
structure Store where
  memory      : Memory
  op          : Option StoreOp
  jobs        : List Job
  fill0       : Nat
  fill1       : Nat
  fill2       : Nat
  /-- The identity of the IDENTITY record in force that the erase of sector 0 removed, for its refresh (R172).  Log entry 48. -/
  identityKept : Option Identity
  faultCount  : Nat
  latestFault : Option (OpKind × Nat)
  deriving DecidableEq, Repr

/-- The lock state of the identity (R174). -/
inductive LockState where
  | unlocked | pending | locked
  deriving DecidableEq, Repr

/-- The station identity and its lock (R173, R174). -/
structure Station where
  identity : Option Identity
  lock     : LockState
  /-- The lock entries spent, and the entry the next attempt uses. -/
  spent    : Nat
  nextLock : Nat
  deriving DecidableEq, Repr

/-- A program that the start-up scan makes itself (R176, R160); the write of the defaults has the stage of the refresh that it
may need (R171, R172). -/
inductive ScanOp where
  | settingsDefaults (stage : Nat)
  | mark (pos : Nat) (status : RecordStatus)
  deriving DecidableEq, Repr

/-! ## The table loader -/

/-- The staged fare table (section 10.2). -/
inductive Staged where
  | empty
  | arming (image : List Byte)
  | armed (image : List Byte)
  deriving DecidableEq, Repr

/-- The load state of the deny list (R188). -/
inductive LoadState where
  | idle | loading | programming | staged | activating
  deriving DecidableEq, Repr

/-- The Table Loader (chapter 10). -/
structure Loader where
  /-- Parts 0 to 7 of the upload buffer. -/
  parts       : List (Option (List Byte))
  staged      : Staged
  activeBank  : Option Bank
  stagingBank : Bank
  /-- The fare table activation mark is pending (R186). -/
  markPending : Bool
  load        : LoadState
  list        : List DenyEntry
  listVersion : Nat
  listCount   : Nat
  /-- The marked deny bank (R188). -/
  markedBank  : Option Bank
  logUse      : Nat
  deriving DecidableEq, Repr

/-! ## Settings -/

/-- A value for every setting that `gparm` writes (section 11.4), in the unit its value travels in.  Bit i of the
polarity is identifier 22 + i, 1 for active low. -/
structure Settings where
  answerWindow         : Nat
  orientation          : Nat
  sightingAge          : Nat
  honourWindow         : Nat
  recoveryLifetime     : Nat
  groupCredits         : Nat
  creditWindow         : Nat
  sensorFilter         : Nat
  passageLimit         : Nat
  stuckLimit           : Nat
  closeDelay           : Nat
  startMode            : Nat
  deadtime             : Nat
  brakeInterval        : Nat
  motionLimit          : Nat
  slowThreshold        : Nat
  inrushBlanking       : Nat
  obstructionThreshold : Nat
  obstructionRetries   : Nat
  reopenHold           : Nat
  failOpen             : Nat
  polarity             : BitVec 8
  deriving DecidableEq, Repr

/-- The settings in force, the stored values, and the identifiers whose stored value is pending (R106, R176, R203). -/
structure SettingsBlock where
  inForce : Settings
  stored  : Settings
  pending : List Nat
  deriving DecidableEq, Repr

/-! ## The control link -/

/-- The status codes of a reply (R202), in the order of their codes. -/
inductive Status where
  | done | clamped | busy | starting | unknownKind | badLength | badValue | notInMode | locked | full | notFound
  | version | order | stale | incomplete | badTable | aisleBusy
  deriving DecidableEq, Repr

/-- The event kinds (section 11.7), in the order of their bits. -/
inductive EventKind where
  | reset | clockInvalid | clone | cloneLate | tear | evasion | tailgate | wrongWay | loiter | beamStuck | leafStall
  | leafObstructed | leafSlow | emergency | supplyWarning | journalLow | journalFull | storeFault | settingsLost
  | tableActivated | tableInvalid | denyActivated | denyStale | hotlistFull | linkOverrun
  deriving DecidableEq, Repr

/-- A frame of the request input queue (R199). -/
structure Frame where
  kind    : Byte
  payload : List Byte
  deriving DecidableEq, Repr

/-- The receiver (R197): hunting, or holding the bytes taken since the sync byte. -/
inductive Receiver where
  | hunting
  | inFrame (bytes : List Byte)
  deriving DecidableEq, Repr

/-- The reply of `ident` (R205). -/
structure IdentReport where
  part     : Nat
  revision : Nat
  scanStep : Option Nat
  identity : Option Identity
  stored   : Bool
  lock     : LockState
  deriving DecidableEq, Repr

/-- An item of the reply of `rparm` (R204). -/
structure SettingItem where
  id      : Nat
  inForce : Nat
  pending : Option Nat
  deriving DecidableEq, Repr

/-- The reply of `rtime` (R139). -/
structure TimeReport where
  valid      : Bool
  atLimit    : Bool
  seconds    : Nat
  minute     : Nat
  calendar   : DateTime
  weekday    : Nat
  serviceDay : Option Nat
  band       : Option Nat
  deriving DecidableEq, Repr

/-- The staged state that `ftstat` shows (R187). -/
inductive StagedShown where
  | empty | uploading | arming | armed
  deriving DecidableEq, Repr

/-- The reply of `ftstat` (R187). -/
structure FareTableReport where
  activeVersion   : Option Nat
  activeEffective : Option Nat
  activeBank      : Option Bank
  stagingBank     : Bank
  markPending     : Bool
  staged          : StagedShown
  stagedVersion   : Option Nat
  stagedEffective : Option Nat
  parts           : List Nat
  deriving DecidableEq, Repr

/-- The reply of `dlstat` (R195). -/
structure DenyReport where
  version       : Nat
  count         : Nat
  markedBank    : Option Bank
  logUse        : Nat
  load          : LoadState
  stagedVersion : Option Nat
  declared      : Option Nat
  received      : Option Nat
  deriving DecidableEq, Repr

/-- An item of the reply of `jread` (R157). -/
inductive JournalItem where
  | record (bytes : List Byte) (unverified : Bool)
  | damaged (seq : Nat)
  deriving DecidableEq, Repr

/-- What `stat` reports of a leaf (R112). -/
structure LeafReport where
  state        : LeafState
  bridge       : Bridge
  count        : Nat
  openSwitch   : Bool
  closedSwitch : Bool
  mean         : Nat
  reopenRuns   : Bool
  lastOpen     : Nat
  lastClose    : Nat
  deriving DecidableEq, Repr

/-- The reply of `stat` (R212), item by item. -/
structure StatusReport where
  cause           : ResetCause
  scanStep        : Option Nat
  events          : BitVec 32
  mask            : BitVec 32
  discarded       : Nat
  dropped         : Nat
  inputFrames     : Nat
  identity        : Option Identity
  identityStored  : Bool
  lock            : LockState
  lockSpent       : Nat
  key0            : Option Nat
  key1            : Option Nat
  readerU         : SessionState × Indicator
  readerP         : SessionState × Indicator
  mode            : GateMode
  returnMode      : GateMode
  hostEmergency   : Bool
  emergencyLine   : Bool
  claim           : Option Direction
  credits         : List Credit
  trackPhase      : TrackPhase
  inboundCount    : Nat
  outboundCount   : Nat
  unpaidCount     : Nat
  stuckBeams      : List Beam
  left            : LeafReport
  right           : LeafReport
  clockValid      : Bool
  recoveryCount   : Nat
  freePositions   : Nat
  unreleased      : Nat
  nextSeq         : Nat
  floor           : Nat
  stagingEntries  : Nat
  reservations    : Nat
  freeEntries     : Nat
  opInProgress    : Option OpKind
  suspended       : Bool
  jobsWaiting     : List JobKind
  faultCount      : Nat
  latestFault     : Option (OpKind × Nat)
  deriving DecidableEq, Repr

/-- What a reply carries behind its status (section 11.5 and the owning rules). -/
inductive ReplyData where
  | none
  | ident (r : IdentReport)
  | keyVersions (slot0 slot1 : Option Nat)
  | storedValues (pairs : List (Nat × Nat))
  | settings (items : List SettingItem) (direction : AisleDirection) (pending : Option AisleDirection)
  | sequence (seq : Nat)
  | leafStates (left right : LeafState)
  | leavesCleared (count : Nat) (left right : LeafState)
  | badField (index : Nat)
  | timeSet (seconds minute oldSeconds : Nat) (oldValid : Bool) (step : Option Int)
  | aligned (seconds minute : Nat) (step : Int)
  | time (r : TimeReport)
  | parts (held : List Nat)
  | missing (indices : List Nat)
  | offset (o : Nat)
  | version (v : Nat)
  | fareTable (r : FareTableReport)
  | count (n : Nat)
  | deltaTaken (version slot : Nat)
  | deny (r : DenyReport)
  | hotList (count : Nat) (entries : List HotEntry)
  | sightingCase (r : SightingResult)
  | sighting (entry : Sighting) (age : Nat) (count : Nat)
  | journal (items : List JournalItem) (unreleased newest : Nat)
  | released (count oldest : Nat)
  | maskAndEvents (mask events : BitVec 32)
  | events (set : BitVec 32)
  | status (r : StatusReport)
  deriving DecidableEq, Repr

/-- A message of the output queue (R201). -/
inductive OutMessage where
  | reply (kind : Byte) (status : Status) (data : ReplyData)
  | nout (reader : Reader) (number : Nat) (outcome : CardOutcome) (charge : Nat) (balance : Option Int)
  | npas (direction : Direction) (source : Option CreditSource) (seq : Option Nat) (occlusion : Nat)
  | nsig (number counter : Nat) (stamp : Stamp) (direction : Direction) (seenAt : Nat)
  /-- The payload is fixed when transmission begins (R209); none while the message waits. -/
  | natt (payload : Option (BitVec 32))
  deriving DecidableEq, Repr

/-- The Control Link Port (chapter 11). -/
structure LinkPort where
  receiver       : Receiver
  gap            : Timer
  input          : List Frame
  output         : List OutMessage
  mask           : BitVec 32
  events         : BitVec 32
  discarded      : Nat
  dropped        : Nat
  restartPending : Bool
  cause          : ResetCause
  deriving DecidableEq, Repr

/-! ## The state -/

/-- The state of the 520. -/
structure State where
  /-- The interval clock, in microseconds (R141). -/
  now           : Nat
  /-- The MODEL's own field, not the manual's: how many free values have been drawn (log entries 2 to 4). -/
  free          : Nat
  phase         : Phase
  /-- The step of R177 that the start-up scan has reached, and the programs it still has to make. -/
  scanStep      : Nat
  scanWork      : List ScanOp
  /-- The supply-warning line is active (R168). -/
  supplyWarning : Bool
  clock         : Clock
  link          : LinkPort
  cards         : Cards
  check         : Check
  recovery      : List RecoveryEntry
  /-- The active fare table (R50). -/
  fare          : Option FareTable
  aisle         : Aisle
  drive         : Drive
  journal       : Journal
  store         : Store
  station       : Station
  loader        : Loader
  settings      : SettingsBlock
  /-- The commands waiting, first in first out. -/
  pending       : List Instr
  deriving DecidableEq, Repr

/-! ## Reset values -/

/-- A session after every reset kind (R6, R25). -/
def Session.initial : Session :=
  { state := .closed, card := none, noAnswerUsed := false, mismatchUsed := false, resendUsed := false, challenges := [],
    verdict := none, denyReason := 0, denyVersion := none, fareVersion := none, twin := false, image := none,
    decision := none, blockPath := false, withheld := false, intent := none, intentSeq := none, honourDeadline := 0,
    outcome := none, exchange := none, answerWindow := none, display := none, collision := none }

/-- The Card Link Unit after every reset kind (R2, R25). -/
def Cards.initial : Cards :=
  { sessionU := Session.initial, sessionP := Session.initial, presence0 := .noCard, presence1 := .noCard,
    inSession0 := none, inSession1 := none }

/-- The Card Check Unit after a reset that keeps the given sightings (R28, R29, R37, R44). -/
def Check.initial (sightings : List Sighting) : Check :=
  { denyList := [], denyVersion := 0, hotList := [], key0 := none, key1 := none, sightings := sightings }

/-- A line whose filter has not started, with the raw level it has. -/
def Filtered.initial (raw : Bool) : Filtered := { raw := raw, level := false, timer := none }

/-- A beam after every reset kind (R97, R103). -/
def BeamState.initial (raw : Bool) : BeamState := { line := Filtered.initial raw, stuck := false, measure := none }

/-- The Aisle Controller after every reset kind and through the start-up scan (R88, R89, R108); the arguments are the raw
levels of the emergency line and of beams A, S and B.  That the return mode reads OUT_OF_SERVICE until the scan ends is log
entry 5. -/
def Aisle.initial (line a sb b : Bool) : Aisle :=
  { mode := .outOfService, returnMode := .outOfService, hostEmergency := false, emergencyLine := Filtered.initial line,
    direction := .both, pendingDirection := none, claim := none, credits := [], window := .stopped, closeDelay := none,
    phase := .clear, leadPast := false, leadStart := none, followerStart := none, passageLimit := none,
    inboundCount := 0, outboundCount := 0, unpaidCount := 0, beamA := BeamState.initial a, beamS := BeamState.initial sb,
    beamB := BeamState.initial b, target := .free }

/-- A leaf after every reset kind (R112, R131), with the raw levels of its end switches; its bridge is OFF from `since`. -/
def Leaf.initial (since : Nat) (openRaw closedRaw : Bool) : Leaf :=
  { state := .free, bridge := .off, offSince := since, deadtime := none, action := none, braked := false,
    reversal := false, count := 0, motionStart := none, motionLimit := none, blanking := none, sampling := none, window := [],
    brake := none, reopen := none, lastOpen := 0, lastClose := 0, openSwitch := Filtered.initial openRaw,
    closedSwitch := Filtered.initial closedRaw }

/-- The number of journal sectors and positions in the ring (R155). -/
def journalSectors : Nat := 217
def journalPositions : Nat := 13888

/-- The Transaction Journal after every reset kind, before the journal scan (R150, R163). -/
def Journal.initial : Journal :=
  { staging := [], reservations := 0, waiting := [], nextSeq := 0, newestAssigned := 0, newestProgrammed := 0,
    floor := 0, sectors := [], writePos := 0, positions := [], eraseWork := .idle }

/-- The Persistent Store after every reset kind: its contents kept, everything else lost (R167, R169). -/
def Store.initial (m : Memory) : Store :=
  { memory := m, op := none, jobs := [], fill0 := 0, fill1 := 0, fill2 := 0, identityKept := none, faultCount := 0,
    latestFault := none }

/-- The identity after every reset kind, before the scan's step 1 (R205).  The lock state and the spent count are log entry
60. -/
def Station.initial : Station := { identity := none, lock := .unlocked, spent := 0, nextLock := 0 }

/-- The Table Loader after every reset kind, before the scan (R178, R181, R188). -/
def Loader.initial : Loader :=
  { parts := List.replicate 8 none, staged := .empty, activeBank := none, stagingBank := .A, markPending := false,
    load := .idle, list := [], listVersion := 0, listCount := 0, markedBank := none, logUse := 0 }

/-- The default of every setting (R1, R3, R41, R75, R77, sections 5.7 and 6.9). -/
def Settings.defaults : Settings :=
  { answerWindow := 20, orientation := 0, sightingAge := 240, honourWindow := 60, recoveryLifetime := 30,
    groupCredits := 4, creditWindow := 8, sensorFilter := 10, passageLimit := 12, stuckLimit := 90, closeDelay := 600,
    startMode := 2, deadtime := 4, brakeInterval := 40, motionLimit := 1500, slowThreshold := 1000,
    inrushBlanking := 120, obstructionThreshold := 1800, obstructionRetries := 3, reopenHold := 1500, failOpen := 1,
    polarity := 0 }

/-- The settings after every reset kind, before the scan has read the record (R88, R176). -/
def SettingsBlock.initial : SettingsBlock :=
  { inForce := Settings.defaults, stored := Settings.defaults, pending := [] }

/-- The Control Link Port after a reset of the given cause (R213): RESET set, every notice disabled. -/
def LinkPort.initial (cause : ResetCause) : LinkPort :=
  { receiver := .hunting, gap := none, input := [], output := [], mask := 0, events := 1, discarded := 0, dropped := 0,
    restartPending := false, cause := cause }

/-- The machine right after reset: the first POWER_ON reset of a 520 whose store has never been written has ended, the
loss indication has been tested, and the start-up scan stands at its step 1 (R135, R177, R213; log entry 5). -/
def State.reset : State :=
  { now := 0, free := 0, phase := .scanning, scanStep := 1, scanWork := [], supplyWarning := false,
    clock := { seconds := 0, valid := false, loss := false, boundary := 1000000 },
    link := LinkPort.initial .powerOn, cards := Cards.initial, check := Check.initial [], recovery := [], fare := none,
    aisle := Aisle.initial false false false false,
    drive := { left := Leaf.initial 0 false false, right := Leaf.initial 0 false false, inForce := .free },
    journal := Journal.initial, store := Store.initial [], station := Station.initial, loader := Loader.initial,
    settings := SettingsBlock.initial, pending := [] }

end Sys2Proof.Machine
end

