-- ==== Sys2Proof/Machine/Flags.lean ====
section
/-! DEFINITION. The pending event set, attention, notices and replies (R200 to R211): what every block uses to speak to
the host. -/

namespace Sys2Proof.Machine

/-- The bit of an event kind (section 11.7). -/
def EventKind.bit : EventKind → Nat
  | .reset => 0 | .clockInvalid => 1 | .clone => 2 | .cloneLate => 3 | .tear => 4 | .evasion => 5 | .tailgate => 6
  | .wrongWay => 7 | .loiter => 8 | .beamStuck => 9 | .leafStall => 10 | .leafObstructed => 11 | .leafSlow => 12
  | .emergency => 13 | .supplyWarning => 14 | .journalLow => 15 | .journalFull => 16 | .storeFault => 17
  | .settingsLost => 18 | .tableActivated => 19 | .tableInvalid => 20 | .denyActivated => 21 | .denyStale => 22
  | .hotlistFull => 23 | .linkOverrun => 24

/-- The level kinds (section 11.7). -/
def levelKinds : List EventKind :=
  [.clockInvalid, .beamStuck, .leafStall, .leafObstructed, .emergency, .supplyWarning, .journalLow, .journalFull,
   .tableInvalid]

/-- The bits of the data notices in the mask (R208). -/
def noutBit : Nat := 29
def npasBit : Nat := 30
def nsigBit : Nat := 31

/-- A set with one bit. -/
def oneBit (k : Nat) : BitVec 32 := 1#32 <<< k

/-- Whether a flag is set. -/
def LinkPort.flag (l : LinkPort) (k : EventKind) : Bool := l.events.getLsbD k.bit

/-- The transmitter sends the oldest message; a `natt` that begins takes the event set as it then stands (R196, R209). -/
def LinkPort.startHead (l : LinkPort) : LinkPort :=
  match l.output with
  | .natt none :: rest => { l with output := .natt (some l.events) :: rest }
  | _ => l

/-- A message enters the output queue (R201). -/
def LinkPort.enqueue (m : OutMessage) (l : LinkPort) : LinkPort :=
  LinkPort.startHead { l with output := l.output ++ [m] }

/-- A `natt` is owed: one enters unless one waits untransmitted (R209). -/
def LinkPort.oweNatt (l : LinkPort) : LinkPort :=
  if OutMessage.natt none ∈ l.output then l else l.enqueue (.natt none)

/-- An event is raised: its flag is set, and a `natt` is owed when it changes from clear to set while enabled (R209,
R210). -/
def LinkPort.raise (k : EventKind) (l : LinkPort) : LinkPort :=
  if l.flag k then l
  else
    let set := { l with events := l.events ||| oneBit k.bit }
    if l.mask.getLsbD k.bit then set.oweNatt else set

/-- A count that is held at its greatest value (R167, R197, R201). -/
def bump (n greatest : Nat) : Nat := if n < greatest then n + 1 else greatest

/-- A data notice enters when its kind is enabled and fewer than 12 places are occupied; otherwise it is dropped (R201). -/
def LinkPort.notify (bit : Nat) (m : OutMessage) (l : LinkPort) : LinkPort :=
  if l.mask.getLsbD bit then
    if l.output.length < 12 then l.enqueue m else { l with dropped := bump l.dropped 65535 }
  else l

/-- The kind byte of a reply: the request's kind with the reply flag set (R198). -/
def replyKind (kind : Byte) : Byte := kind ||| 0x80#8

/-- An event is raised (R210). -/
def State.raise (k : EventKind) (s : State) : State := { s with link := s.link.raise k }

/-- An event is raised when a condition holds. -/
def State.raiseIf (c : Bool) (k : EventKind) (s : State) : State := if c then s.raise k else s

/-- A data notice is handed to the port (R207). -/
def State.notify (bit : Nat) (m : OutMessage) (s : State) : State := { s with link := s.link.notify bit m }

/-- The reply to a request enters the output queue (R200, R201). -/
def State.reply (kind : Byte) (status : Status) (data : ReplyData) (s : State) : State :=
  { s with link := s.link.enqueue (.reply (replyKind kind) status data) }

/-! ## Taking a request (R200) -/

/-- The link runs from the end of a reset on (R196). -/
def Phase.linkRuns : Phase → Bool
  | .scanning | .running => true
  | .off | .inReset => false

/-- The port can take a request of a kind whose payload a test accepts: the link runs, fewer than 14 places are occupied, no
restart is pending, and the oldest frame of the input queue, when there is one, is of that kind and its payload passes the
test (R200; log entry 10). -/
def State.portTakes (s : State) (kind : Byte) (accepts : List Byte → Bool) : Bool :=
  s.phase.linkRuns && decide (s.link.output.length < 14) && !s.link.restartPending &&
  (match s.link.input with
   | [] => true
   | f :: _ => f.kind == kind && accepts f.payload)

/-- The oldest frame leaves the input queue (R199). -/
def State.dropFrame (s : State) : State := { s with link := { s.link with input := s.link.input.tail } }

/-- The kinds of `ident` and `stat`, which are decided during the start-up scan too (R200). -/
def kindIdent : Byte := 1
def kindStat : Byte := 32

/-- The port takes a request and decides it in one step (R200): STARTING during the scan, BAD_LENGTH when the payload
does not fit, otherwise the owning rule.  `read` gives the fields that a payload's bytes hold, or that they do not fit; the
command is the one that the oldest frame of the input queue spells. -/
def takeRequest {α : Type} [DecidableEq α] (kind : Byte) (read : List Byte → Payload α) (p : Payload α)
    (rule : α → State → State) (s : State) : State :=
  if s.portTakes kind fun bs => decide (read bs = p) then
    let t := s.dropFrame
    if t.phase = .scanning ∧ kind ≠ kindIdent ∧ kind ≠ kindStat then t.reply kind .starting .none
    else
      match p with
      | .misfit => t.reply kind .badLength .none
      | .fits a => rule a t
  else s

end Sys2Proof.Machine
end

