-- ==== Sys2Proof/Machine/Drive.lean ====
section
/-! DEFINITION. The Leaf Drive (chapter 6): what one leaf does on each event, and how both follow the target in force.

A leaf's action is a function of the leaf and of what it sees of the rest of the 520; it gives the leaf after it and the
events it raises. -/

namespace Sys2Proof.Machine

/-- What a leaf sees of the rest of the 520 in a step. -/
structure DriveView where
  now       : Nat
  settings  : Settings
  /-- The target in force. -/
  target    : Target
  /-- The filtered safety beam S is clear. -/
  sClear    : Bool
  emergency : Bool
  deriving DecidableEq, Repr

/-- A leaf after an action, and the events raised. -/
structure Moved where
  leaf   : Leaf
  events : List EventKind
  deriving DecidableEq, Repr

/-- The action changed only the leaf. -/
def Leaf.quiet (l : Leaf) : Moved := { leaf := l, events := [] }

/-! ## The bridge (R109, R110) -/

/-- Milliseconds in microseconds. -/
def millis (n : Nat) : Nat := 1000 * n

/-- The bridge goes OFF at once, which ends the motion, the blanking, the brake and any deadtime (R110, R115). -/
def Leaf.bridgeOff (v : DriveView) (l : Leaf) : Leaf :=
  { l with bridge := .off, offSince := if l.bridge = .off then l.offSince else v.now, deadtime := none,
           motionStart := none, motionLimit := none, blanking := none, sampling := none, brake := none }

/-- The current sampling period, 1 ms (R121). -/
def samplingPeriod : Nat := 1000

/-- The bridge enters a state; at a drive start the motion timer, the blanking and the sampling start and the window is
emptied (R115, R121).  Log entry 50. -/
def Leaf.enterBridge (v : DriveView) (b : Bridge) (l : Leaf) : Leaf :=
  match b with
  | .off => l.bridgeOff v
  | .brake => { l with bridge := .brake, deadtime := none, brake := some (v.now + millis v.settings.brakeInterval) }
  | .driveOpen | .driveClose =>
    { l with bridge := b, deadtime := none, motionStart := some v.now,
             motionLimit := some (v.now + millis v.settings.motionLimit),
             blanking := some (v.now + millis v.settings.inrushBlanking), sampling := some (v.now + samplingPeriod),
             window := [] }

/-- A bridge state is called for: it is entered at once when OFF has lasted the deadtime, otherwise when it has (R110).
Log entry 37. -/
def Leaf.callBridge (v : DriveView) (b : Bridge) (l : Leaf) : Leaf :=
  if l.bridge = .off ∧ l.offSince + v.settings.deadtime ≤ v.now then l.enterBridge v b
  else { l with deadtime := some (l.offSince + v.settings.deadtime) }

/-! ## Stalls and stops (R113, R117, R119) -/

/-- Both end switches are active. -/
def Leaf.bothActive (l : Leaf) : Bool := l.openSwitch.level && l.closedSwitch.level

/-- The leaf enters STALLED (R119); in EMERGENCY its reopen hold timer is loaded (R128). -/
def Leaf.enterStalled (v : DriveView) (l : Leaf) : Moved :=
  { leaf := { l.bridgeOff v with
      state := .stalled, action := none, braked := false, reversal := false,
      reopen := if v.emergency then some (v.now + millis v.settings.reopenHold) else l.reopen },
    events := [.leafStall] }

/-- Both end switches are active: OFF at once, with no brake, and STALLED; the window is emptied (R113). -/
def Leaf.stallBoth (v : DriveView) (l : Leaf) : Moved := ({ l with window := [] }).enterStalled v

/-- A stop: OFF at once, then BRAKE after the deadtime (R117). -/
def Leaf.stop (v : DriveView) (a : AfterBrake) (l : Leaf) : Leaf :=
  ({ l.bridgeOff v with state := .braking, action := some a, braked := false }).callBridge v .brake

/-- The reversal of R122 and R123: a stop with action OPEN and the reversal mark set. -/
def Leaf.reverse (v : DriveView) (l : Leaf) : Leaf := ({ l with reversal := true }).stop v .open

/-! ## Motion starts (R114, R115) -/

/-- A motion toward open starts, unless both end switches are active (R115). -/
def Leaf.startOpening (v : DriveView) (l : Leaf) : Moved :=
  if l.bothActive then l.stallBoth v
  else (({ l with state := .opening, action := none, braked := false }).callBridge v .driveOpen).quiet

/-- The conditions of a motion toward closed (R115). -/
def Leaf.mayClose (v : DriveView) (l : Leaf) : Bool := v.sClear && !v.emergency && l.reopen.isNone

/-- The leaf takes its rest state at the open end; the reversal mark decides between OPEN, OPEN with the reopen hold and
HELD_OPEN, and is cleared (R116, R124, R125). -/
def Leaf.restOpen (v : DriveView) (l : Leaf) : Moved :=
  let off := { l.bridgeOff v with action := none, braked := false, reversal := false }
  if l.reversal then
    if l.count < v.settings.obstructionRetries then
      { leaf := { off with state := .open, reopen := some (v.now + millis v.settings.reopenHold) }, events := [] }
    else { leaf := { off with state := .heldOpen }, events := [.leafObstructed] }
  else { leaf := { off with state := .open }, events := [] }

/-- The leaf takes its rest state at the closed end, and its count becomes 0 (R116). -/
def Leaf.restClosed (v : DriveView) (l : Leaf) : Moved :=
  ({ l.bridgeOff v with state := .closed, action := none, braked := false, reversal := false, count := 0 }).quiet

/-- Toward the open end, or at rest there with no drive when its switch is active (R114, R117). -/
def Leaf.goOpen (v : DriveView) (l : Leaf) : Moved :=
  if l.bothActive then l.stallBoth v else if l.openSwitch.level then l.restOpen v else l.startOpening v

/-- A motion toward closed is called for (R115).  A leaf in OPEN waits for the conditions.  A FREE leaf at the open end
is taken as one in OPEN; any other starts an S reversal when they fail, which a leaf whose brake has ended at its open end
makes by going to its open-end rest with the reversal mark set (log entry 21). -/
def Leaf.requestClose (v : DriveView) (l : Leaf) : Moved :=
  if l.bothActive then l.stallBoth v
  else if l.mayClose v then
    (({ l with state := .closing, action := none, braked := false }).callBridge v .driveClose).quiet
  else
    match l.state with
    | .open => l.quiet
    | .free => if l.openSwitch.level then ({ l with state := .open }).quiet else ({ l with reversal := true }).goOpen v
    | _ => ({ l with reversal := true }).goOpen v

/-- Toward the closed end, or CLOSED with no drive when its switch is active (R114). -/
def Leaf.goClosed (v : DriveView) (l : Leaf) : Moved :=
  if l.bothActive then l.stallBoth v
  else if l.closedSwitch.level then ({ l with state := .closed }).quiet else l.requestClose v

/-- A leaf in a rest state acts on the target in force (R114). -/
def Leaf.actAtRest (v : DriveView) (l : Leaf) : Moved :=
  match l.state, v.target with
  | .free, .open => if l.openSwitch.level then ({ l with state := .open }).quiet else l.startOpening v
  | .free, .closed => l.goClosed v
  | .closed, .open => l.startOpening v
  | .closed, .free => ({ l with state := .free }).quiet
  | .open, .closed => l.requestClose v
  | .open, .free => ({ l with state := .free }).quiet
  | _, _ => l.quiet

/-- Two actions of a leaf in one step. -/
def Moved.andThen (m : Moved) (f : Leaf → Moved) : Moved :=
  { leaf := (f m.leaf).leaf, events := m.events ++ (f m.leaf).events }

/-- A leaf that enters a rest state acts on the target in force; the target FREE is acted on only when it is handed
(R114, R127).  Log entry 33. -/
def Leaf.settle (v : DriveView) (l : Leaf) : Moved := if v.target = .free then l.quiet else l.actAtRest v

/-! ## A change of the target in force (R114, R117, R118) -/

/-- The after-brake action under a change of the target in force (R117). -/
def retargetedAction (target : Target) (action : Option AfterBrake) (reversal : Bool) : Option AfterBrake :=
  match target with
  | .open => some .open
  | .closed => if action = some .stall ∨ (action = some .open ∧ reversal = true) then action else some .close
  | .free => if action = some .stall then action else some .free

/-- What a leaf does when the target in force changes (R114, R117, R118). -/
def Leaf.retarget (v : DriveView) (l : Leaf) : Moved :=
  match l.state with
  | .opening =>
    match v.target with
    | .open => l.quiet
    | .closed => if l.reversal then l.quiet else (l.stop v .close).quiet
    | .free => (l.stop v .free).quiet
  | .closing =>
    match v.target with
    | .open => (l.stop v .open).quiet
    | .closed => l.quiet
    | .free => (l.stop v .free).quiet
  | .braking => ({ l with action := retargetedAction v.target l.action l.reversal }).quiet
  | .free | .closed | .open => l.actAtRest v
  | .stalled | .heldOpen => l.quiet

/-! ## Arrivals and end switches (R113 to R116, R120) -/

/-- The slow threshold in use (R120). -/
def slowThresholdInUse (s : Settings) : Nat :=
  if s.motionLimit ≤ s.slowThreshold then s.motionLimit - 100 else s.slowThreshold

/-- A motion's captured time in whole milliseconds, or none when no drive began (R116). -/
def Leaf.captured (v : DriveView) (l : Leaf) : Option Nat := l.motionStart.map fun t => (v.now - t) / 1000

/-- LEAF_SLOW when a captured time exceeds the threshold in use (R120). -/
def slowEvents (v : DriveView) : Option Nat → List EventKind
  | some t => if slowThresholdInUse v.settings < t then [.leafSlow] else []
  | none => []

/-- A leaf reaches the end it is driven toward (R116). -/
def Leaf.arrive (v : DriveView) (e : LeafEnd) (l : Leaf) : Moved :=
  let t := l.captured v
  let rest :=
    match e with
    | .openEnd => ({ l with lastOpen := t.getD l.lastOpen }).restOpen v
    | .closedEnd => ({ l with lastClose := t.getD l.lastClose }).restClosed v
  let m := rest.andThen (·.settle v)
  { m with events := slowEvents v t ++ m.events }

/-- An end switch of a leaf, and the leaf with it replaced. -/
def Leaf.switch (l : Leaf) : LeafEnd → Filtered
  | .openEnd => l.openSwitch
  | .closedEnd => l.closedSwitch
def Leaf.setSwitch (l : Leaf) (e : LeafEnd) (f : Filtered) : Leaf :=
  match e with
  | .openEnd => { l with openSwitch := f }
  | .closedEnd => { l with closedSwitch := f }

/-- What a leaf does on a filtered change of an end switch, already taken into the leaf (R113, R114, R116). -/
def Leaf.onSwitch (v : DriveView) (e : LeafEnd) (l : Leaf) : Moved :=
  if l.bothActive then (if l.state = .stalled then l.quiet else l.stallBoth v)
  else if (l.switch e).level then
    match l.state, e with
    | .opening, .openEnd => l.arrive v .openEnd
    | .closing, .closedEnd => l.arrive v .closedEnd
    | _, _ => l.quiet
  else
    match l.state, e with
    | .open, .openEnd => if v.target = .free then ({ l with state := .free }).quiet else l.startOpening v
    | .closed, .closedEnd => if v.target = .free then ({ l with state := .free }).quiet else l.requestClose v
    | _, _ => l.quiet

/-! ## The timers (R110, R117, R119, R121, R124, R128) -/

/-- BRAKING ends with its after-brake action (R117). -/
def Leaf.endBraking (v : DriveView) (l : Leaf) : Moved :=
  match l.action with
  | some .open => l.goOpen v
  | some .close =>
    if l.bothActive then l.stallBoth v
    else if l.closedSwitch.level then (l.restClosed v).andThen (·.settle v) else l.requestClose v
  | some .free =>
    (({ l with state := .free, action := none, braked := false, reversal := false }).quiet).andThen (·.settle v)
  | some .stall => l.enterStalled v
  | none => l.quiet

/-- The deadtime has run: the bridge state called for is entered, or BRAKING ends (R110, R117). -/
def Leaf.onDeadtime (v : DriveView) (l : Leaf) : Moved :=
  let t := { l with deadtime := none }
  match l.state with
  | .opening => (t.enterBridge v .driveOpen).quiet
  | .closing => (t.enterBridge v .driveClose).quiet
  | .braking => if l.braked then (t.endBraking v).andThen (fun m => if m.state = .open then m.settle v else m.quiet)
                else (t.enterBridge v .brake).quiet
  | _ => t.quiet

/-- The motion timer of a leaf in OPENING or CLOSING reaches the motion limit: a stop with action STALL (R119). -/
def Leaf.onMotionLimit (v : DriveView) (l : Leaf) : Leaf :=
  match l.state with
  | .opening | .closing => l.stop v .stall
  | _ => l

/-- The brake interval has run: the bridge goes OFF, and BRAKING ends after the deadtime (R117). -/
def Leaf.onBrake (v : DriveView) (l : Leaf) : Leaf :=
  { l.bridgeOff v with braked := true, deadtime := some (v.now + v.settings.deadtime) }

/-- The mean of a full window (R121). -/
def windowMean (w : List Nat) : Nat := if w.length = 8 then w.sum / 8 else 0

/-- A sample enters the window, which keeps the last 8; a current above 8,000 mA is taken as 8,000 mA (R121). -/
def pushSample (w : List Nat) (milliamps : Nat) : List Nat := (w ++ [min milliamps 8000]).drop (w.length + 1 - 8)

/-- A current sample is taken in a drive state, and the next is due a period later; after the blanking it enters the
window, and the mean of a full window is tested (R121, R122). -/
def Leaf.onSample (v : DriveView) (milliamps : Nat) (l : Leaf) : Leaf :=
  let l := { l with sampling := l.sampling.map (· + samplingPeriod) }
  if (l.bridge = .driveOpen ∨ l.bridge = .driveClose) ∧ l.blanking = none then
    let t := { l with window := pushSample l.window milliamps }
    if t.window.length = 8 ∧ v.settings.inrushBlanking < v.settings.motionLimit ∧
        v.settings.obstructionThreshold < windowMean t.window then
      match l.state with
      | .closing => ({ t with count := bump t.count 7 }).reverse v
      | .opening => t.stop v .stall
      | _ => t
    else t
  else l

/-- The reopen hold has run (R124, R128); a retry tests both switches before the open one (log entry 22). -/
def Leaf.onReopen (v : DriveView) (l : Leaf) : Moved :=
  let t := { l with reopen := none }
  match l.state with
  | .open => if v.target = .closed then t.requestClose v else t.quiet
  | .stalled =>
    if v.emergency then
      if v.target ≠ .open ∨ l.bothActive = true then
        ({ l with reopen := some (v.now + millis v.settings.reopenHold) }).quiet
      else if l.openSwitch.level then (({ t with state := .open }).quiet).andThen (·.settle v)
      else t.startOpening v
    else t.quiet
  | _ => t.quiet

/-- S becomes blocked (R117, R123). -/
def Leaf.onBlocked (v : DriveView) (l : Leaf) : Leaf :=
  match l.state with
  | .closing => l.reverse v
  | .braking => if l.action = some .close then { l with action := some .open, reversal := true } else l
  | _ => l

/-- A condition of R115 ends: a leaf that waits in OPEN for its motion toward closed may start it (R114, R115).  A leaf
that `lclr` has left OPEN under the target FREE stays so: log entry 21. -/
def Leaf.onCondition (v : DriveView) (l : Leaf) : Moved :=
  if l.state = .open ∧ v.target = .closed then l.requestClose v else l.quiet

/-- The mode becomes EMERGENCY: a CLOSING leaf that no change of target has stopped is stopped with action OPEN (R123),
and the timer of a STALLED leaf is loaded (R128).  Log entry 34. -/
def Leaf.onEmergency (v : DriveView) (l : Leaf) : Leaf :=
  match l.state with
  | .closing => l.stop v .open
  | .stalled => { l with reopen := some (v.now + millis v.settings.reopenHold) }
  | _ => l

/-- The mode leaves EMERGENCY: the timer of a STALLED leaf stops (R128). -/
def Leaf.offEmergency (l : Leaf) : Leaf := if l.state = .stalled then { l with reopen := none } else l

/-- A leaf that `lclr` clears (R127). -/
def Leaf.faulted (l : Leaf) : Bool := decide (l.state = .stalled) || decide (l.state = .heldOpen)

/-- `lclr` on one leaf: it acts as a FREE leaf does, under FREE as it would for CLOSED (R127).  What becomes
of a leaf that finds a condition of R115 failing at its open end is log entry 21. -/
def Leaf.clearFault (v : DriveView) (l : Leaf) : Moved :=
  if l.faulted then
    let t := { l with state := .free, count := 0, reopen := none, reversal := false }
    if t.bothActive then t.stallBoth v
    else if v.target = .open then t.actAtRest v else t.goClosed v
  else l.quiet

/-! ## Both leaves -/

/-- A leaf of the drive, and the drive with it replaced. -/
def Drive.leaf (d : Drive) : LeafSide → Leaf
  | .left => d.left
  | .right => d.right
def Drive.setLeaf (d : Drive) (side : LeafSide) (l : Leaf) : Drive :=
  match side with
  | .left => { d with left := l }
  | .right => { d with right := l }

/-- A leaf in OPENING, CLOSING or BRAKING counts as moving (R106, R112). -/
def Leaf.moving (l : Leaf) : Bool :=
  decide (l.state = .opening) || decide (l.state = .closing) || decide (l.state = .braking)

/-- What the leaves see. -/
def State.driveView (s : State) : DriveView :=
  { now := s.now, settings := s.settings.inForce, target := s.drive.inForce, sClear := !s.aisle.beamS.line.level,
    emergency := decide (s.aisle.mode = .emergency) }

/-- Events are raised in order. -/
def State.raiseAll (ks : List EventKind) (s : State) : State := ks.foldl (fun t k => t.raise k) s

/-- One leaf acts. -/
def State.moveLeaf (side : LeafSide) (f : DriveView → Leaf → Moved) (s : State) : State :=
  let m := f s.driveView (s.drive.leaf side)
  ({ s with drive := s.drive.setLeaf side m.leaf }).raiseAll m.events

/-- Both leaves act, LEFT first.  Log entry 19. -/
def State.moveLeaves (f : DriveView → Leaf → Moved) (s : State) : State := (s.moveLeaf .left f).moveLeaf .right f

/-- The target in force: the one of R104, or what the supply warning puts in its place (R105, R129). -/
def State.targetInForce (s : State) : Target :=
  if s.supplyWarning then (if s.settings.inForce.failOpen = 1 then .open else .free) else s.aisle.target

/-- The target is handed: the leaves act when the target in force changes (R114, R118). -/
def State.handTarget (s : State) : State :=
  let t := s.targetInForce
  if t = s.drive.inForce then s
  else ({ s with drive := { s.drive with inForce := t } }).moveLeaves (fun v l => l.retarget v)

/-- The target is handed anew: a leaf at rest acts on it although it has not changed (R127). -/
def State.handAnew (s : State) : State :=
  if s.targetInForce = s.drive.inForce then s.moveLeaves (fun v l => l.actAtRest v) else s.handTarget

/-- The supply warning's target is handed: the target FREE stops a moving leaf, makes a brake's action FREE and frees a leaf
at rest although it was the target already; the target OPEN is followed as any target is (R129). -/
def State.handWarning (s : State) : State :=
  if s.targetInForce = .free then
    ({ s with drive := { s.drive with inForce := .free } }).moveLeaves fun v l => l.retarget v
  else s.handAnew

/-! ## The bridge outputs (R109, R111) -/

/-- The switches of a bridge (R109). -/
inductive BridgeSwitch where
  | highA | lowA | highB | lowB
  deriving DecidableEq, Repr

/-- Whether a switch is on in a bridge state (R109). -/
def Bridge.on : Bridge → BridgeSwitch → Bool
  | .off, _ => false
  | .driveOpen, .highA | .driveOpen, .lowB => true
  | .driveClose, .lowA | .driveClose, .highB => true
  | .brake, .lowA | .brake, .lowB => true
  | _, _ => false

/-- The place of an output in the polarity: LEFT's four, then RIGHT's, in R109's order (section 11.4). -/
def outputIndex (side : LeafSide) (sw : BridgeSwitch) : Nat :=
  (match side with | .left => 0 | .right => 4) + (match sw with | .highA => 0 | .lowA => 1 | .highB => 2 | .lowB => 3)

/-- The level of a bridge output; none while the output is released (R109, R111).  Log entry 26. -/
def State.bridgeOutput (s : State) (side : LeafSide) (sw : BridgeSwitch) : Option Bool :=
  match s.phase with
  | .off | .inReset => none
  | .scanning =>
    if s.scanStep ≤ 3 then none else some (s.settings.stored.polarity.getLsbD (outputIndex side sw))
  | .running =>
    some ((s.drive.leaf side).bridge.on sw != s.settings.inForce.polarity.getLsbD (outputIndex side sw))

end Sys2Proof.Machine
end

