-- ==== Sys2Proof/Config.lean ====
section
/-! DEFINITION. What an implementation of the 520 fixes and the manual leaves open: the free values.

Each is an opaque constant without a body, so no proof can rest on a value of it.  Log entries 1 to 4. -/

namespace Sys2Proof.Config

/-- The card digest (R30): a 16-byte key and a 16-byte message give an 8-byte result.  Its internals are outside the
manual (00_scope.md, "What this manual covers").  Log entry 1. -/
opaque cardDigest : BitVec 128 → BitVec 128 → BitVec 64

/-- How the 8-byte card key that the first digest of R30 gives fills the 16-byte key of the second; the manual does not
say.  Log entry 1. -/
opaque widenCardKey : BitVec 64 → BitVec 128

/-- The challenge source's n-th draw (R12, R30).  Log entry 2. -/
opaque freeChallenge : Nat → BitVec 64

/-- A free byte: which bits a torn or failed store operation has already changed (R167, R169).  Log entry 3. -/
opaque freeByte : Nat → Byte

/-- A free count: what the seconds count reads once the backup domain has lost it (R135).  Log entry 4. -/
opaque freeSeconds : Nat → Nat

/-- A free flag: what the validity flag reads once the backup domain has lost it (R135).  Log entry 4. -/
opaque freeFlag : Nat → Bool

end Sys2Proof.Config
end

