-- ==== Sys2Proof/Machine/Bytes.lean ====
section
/-! DEFINITION. Byte order and the two check codes of the manual.

Multi-byte fields are least significant byte first everywhere (sections 1.3, 8.8, 10.1, 11.1). -/

namespace Sys2Proof.Machine

/-- The `k` bytes of `n`, least significant first; higher bytes of `n` are dropped. -/
def leBytes : Nat → Nat → List Byte
  | 0, _ => []
  | k + 1, n => BitVec.ofNat 8 n :: leBytes k (n / 256)

/-- The number whose bytes, least significant first, are the list. -/
def leNat : List Byte → Nat
  | [] => 0
  | b :: bs => b.toNat + 256 * leNat bs

/-- The `n` bytes of a list from an offset on; bytes past the list's end read as 0. -/
def slice (bs : List Byte) (offset n : Nat) : List Byte :=
  (List.range n).map fun i => bs.getD (offset + i) 0

/-- The number in the `n` bytes from an offset on. -/
def field (bs : List Byte) (offset n : Nat) : Nat := leNat (slice bs offset n)

/-- A four-byte two's-complement number (the purse balance, section 1.3). -/
def signedOf (n : Nat) : Int := (BitVec.ofNat 32 n).toInt

/-- The four bytes of a two's-complement number. -/
def signedBytes (i : Int) : List Byte := leBytes 4 (BitVec.ofInt 32 i).toNat

/-- One bit of the CRC-16 register: shift left, and add the generator 0x1021 when a one is shifted out. -/
def crc16Bit (c : BitVec 16) : BitVec 16 :=
  if c.toNat < 32768 then c <<< 1 else (c <<< 1) ^^^ 0x1021#16

/-- One byte into the CRC-16 register, most significant bit first (log entry 7). -/
def crc16Byte (c : BitVec 16) (b : Byte) : BitVec 16 :=
  let c0 := c ^^^ ((b.zeroExtend 16) <<< 8)
  crc16Bit (crc16Bit (crc16Bit (crc16Bit (crc16Bit (crc16Bit (crc16Bit (crc16Bit c0)))))))

/-- The CRC-16 of R165, R197 and sections 1.3 and 8.8: generator 0x1021, initial value 0xFFFF, no final inversion. -/
def crc16 (bs : List Byte) : Nat := (bs.foldl crc16Byte 0xFFFF#16).toNat

/-- One bit of the CRC-32 register, least significant bit first: the generator 0x04C11DB7 with its bits reversed. -/
def crc32Bit (c : BitVec 32) : BitVec 32 :=
  if c.toNat % 2 = 0 then c >>> 1 else (c >>> 1) ^^^ 0xEDB88320#32

/-- One byte into the CRC-32 register. -/
def crc32Byte (c : BitVec 32) (b : Byte) : BitVec 32 :=
  let c0 := c ^^^ b.zeroExtend 32
  crc32Bit (crc32Bit (crc32Bit (crc32Bit (crc32Bit (crc32Bit (crc32Bit (crc32Bit c0)))))))

/-- The CRC-32 of R180: generator 0x04C11DB7, initial value 0xFFFFFFFF, each byte least significant bit first, the result
inverted. -/
def crc32 (bs : List Byte) : Nat := (~~~ (bs.foldl crc32Byte 0xFFFFFFFF#32)).toNat

/-- A list of bytes behind which its CRC-16 is stored, low byte first. -/
def withCrc16 (bs : List Byte) : List Byte := bs ++ leBytes 2 (crc16 bs)

/-- The first `n` bytes of an item are followed by their CRC-16. -/
def crc16Holds (bs : List Byte) (n : Nat) : Bool := field bs n 2 == crc16 (slice bs 0 n)

end Sys2Proof.Machine
end

