-- ==== Sys2Proof/Machine/Memory.lean ====
section
/-! DEFINITION. The store's bytes: reading, programming, erasing, and what a torn operation leaves (R164, R167, R169).

An unlisted address reads 0xFF, as an erased byte does (R164). -/

namespace Sys2Proof.Machine

/-- What an erased, and so an unlisted, byte reads as (R164). -/
def erasedByte : Byte := 0xFF#8

/-- The byte at an address. -/
def Memory.read (m : Memory) (a : Nat) : Byte :=
  match m with
  | [] => erasedByte
  | (k, v) :: rest => if k = a then v else Memory.read rest a

/-- The memory with one byte replaced, in canonical form. -/
def Memory.set (m : Memory) (a : Nat) (b : Byte) : Memory :=
  match m with
  | [] => if b = erasedByte then [] else [(a, b)]
  | (k, v) :: rest =>
    if a < k then (if b = erasedByte then (k, v) :: rest else (a, b) :: (k, v) :: rest)
    else if a = k then (if b = erasedByte then rest else (a, b) :: rest)
    else (k, v) :: Memory.set rest a b

/-- The canonical form: addresses strictly rising, above `low`, and no entry equal to what an unlisted address reads. -/
def Memory.wfFrom (low : Nat) : Memory → Bool
  | [] => true
  | (k, v) :: rest => decide (low ≤ k) && v != erasedByte && Memory.wfFrom (k + 1) rest

/-- The canonical form of a memory. -/
def Memory.wf (m : Memory) : Bool := Memory.wfFrom 0 m

/-- `n` bytes from an address on. -/
def Memory.bytes (m : Memory) (a n : Nat) : List Byte := (List.range n).map fun i => m.read (a + i)

/-- A program: it clears the bits that are clear in the byte asked for and sets none (R164). -/
def Memory.program (m : Memory) (a : Nat) : List Byte → Memory
  | [] => m
  | b :: bs => Memory.program (m.set a (m.read a &&& b)) (a + 1) bs

/-- The bytes of a store sector, 4 KiB each (R164). -/
def sectorBase (k : Nat) : Nat := 4096 * k

/-- Whether an address lies in a sector. -/
def inSector (k a : Nat) : Bool := decide (sectorBase k ≤ a) && decide (a < sectorBase k + 4096)

/-- A sector erase: every byte of the sector reads 0xFF (R164). -/
def Memory.eraseSector (m : Memory) (k : Nat) : Memory := m.filter fun c => !inSector k c.1

/-- The listed bytes of an address range, which in canonical form are its bytes that are not erased. -/
def Memory.listed (m : Memory) (a n : Nat) : Memory := m.filter fun c => decide (a ≤ c.1) && decide (c.1 < a + n)

/-- A range whose bytes are all erased. -/
def Memory.blank (m : Memory) (a n : Nat) : Bool := (m.listed a n).isEmpty

/-- A torn program: each byte anywhere between its old value and the value asked for (R169).  `n` numbers the free
bytes.  Log entry 3. -/
def Memory.tornProgram (m : Memory) (a n : Nat) : List Byte → Memory
  | [] => m
  | b :: bs => Memory.tornProgram (m.set a (m.read a &&& (b ||| Config.freeByte n))) (a + 1) (n + 1) bs

/-- A torn program of a journal record, whose status byte is programmed last (section 8.8): the status is touched only
when every other byte has been written. -/
def Memory.tornRecord (m : Memory) (a n : Nat) (bs : List Byte) : Memory :=
  let torn := Memory.tornProgram (Memory.tornProgram m a n (bs.take 5)) (a + 6) (n + 6) (bs.drop 6)
  let asked := m.program a bs
  if torn.bytes a 5 = asked.bytes a 5 ∧ torn.bytes (a + 6) 58 = asked.bytes (a + 6) 58 then
    Memory.tornProgram torn (a + 5) (n + 5) (slice bs 5 1)
  else torn

/-- A torn erase: each byte of the sector either still old or already erased (R169).  Log entry 3. -/
def Memory.tornErase (m : Memory) (k n : Nat) : Memory :=
  m.filter fun c => !(inSector k c.1 && (Config.freeByte (n + (c.1 - sectorBase k))).toNat % 2 == 1)

/-- Whether what an action asks for reads back as asked (R164). -/
def Memory.verifies (m : Memory) : StoreAction → Bool
  | .program _ a bs => m.bytes a bs.length == bs
  | .erase k => (m.filter fun c => inSector k c.1).isEmpty

/-- What an action that runs to its end does. -/
def Memory.carryOut (m : Memory) : StoreAction → Memory
  | .program _ a bs => m.program a bs
  | .erase k => m.eraseSector k

/-- The address of a journal position, numbered from store sector 39 on (R155). -/
def positionAddr (p : Nat) : Nat := sectorBase 39 + 64 * p

/-- What an action leaves when it is torn by a reset or fails (R167, R169). -/
def Memory.tearAction (m : Memory) (n : Nat) : StoreAction → Memory
  | .program kind a bs =>
    if kind = .recordProgram ∧ positionAddr 0 ≤ a ∧ a < positionAddr 13888 then m.tornRecord a n bs
    else m.tornProgram a n bs
  | .erase k => m.tornErase k n

/-- How many free bytes an action may draw. -/
def StoreAction.draws : StoreAction → Nat
  | .program _ _ bs => bs.length
  | .erase _ => 4096

/-- The kind of an action (R164). -/
def StoreAction.kind : StoreAction → OpKind
  | .program k _ _ => k
  | .erase _ => .sectorErase

/-- The sector an action acts on; 256 for the one-time row. -/
def StoreAction.sector : StoreAction → Nat
  | .program _ a _ => a / 4096
  | .erase k => k

/-- The maximum time of an operation, in microseconds (R164). -/
def OpKind.maxTime : OpKind → Nat
  | .recordProgram => 2000
  | .statusMark => 500
  | .pageProgram => 4000
  | .sectorErase => 45000

/-- A 256-byte page's worth of a list of bytes, the k-th. -/
def pageOf (bs : List Byte) (k : Nat) : List Byte := (bs.drop (256 * k)).take 256

end Sys2Proof.Machine
end

