-- ==== Sys2Proof/Machine/Codec.lean ====
section
/-! DEFINITION. The stored and exchanged formats: card image, journal record, control records, bank records, delta slots,
hot list entries, lock entries.

The layouts of the card image (section 1.3) and the journal record (section 8.8) are the manual's.  The manual gives the
contents and the check of the other items but not the place of each byte; those places are log entry 8. -/

namespace Sys2Proof.Machine

/-! ## The card image -/

/-- The fields of an image's bytes (section 1.3), whatever values they hold. -/
def decodeImage (bs : List Byte) : CardImage :=
  { format := field bs 0 1, trip := field bs 1 1, balance := signedOf (field bs 2 4), originStation := field bs 6 2,
    originZone := field bs 8 1, journeyZone := field bs 9 1, entryMinute := field bs 10 4,
    journeyStation := field bs 14 2, journeyStart := field bs 16 4, band := field bs 20 1,
    continuations := field bs 21 1, journeyCharged := field bs 22 2, lastExitStation := field bs 24 2,
    lastExitMinute := field bs 26 4, serviceDay := field bs 30 2, dayTotal := field bs 32 2,
    passPresent := field bs 34 1, passLow := field bs 35 1, passHigh := field bs 36 1, writerGate := field bs 37 1,
    passFirst := field bs 38 2, passLast := field bs 40 2, writerStation := field bs 42 2,
    writerMinute := field bs 44 4 }

/-- The bytes 0 to 47 of an image (section 1.3). -/
def imageBody (i : CardImage) : List Byte :=
  leBytes 1 i.format ++ leBytes 1 i.trip ++ signedBytes i.balance ++ leBytes 2 i.originStation ++
  leBytes 1 i.originZone ++ leBytes 1 i.journeyZone ++ leBytes 4 i.entryMinute ++ leBytes 2 i.journeyStation ++
  leBytes 4 i.journeyStart ++ leBytes 1 i.band ++ leBytes 1 i.continuations ++ leBytes 2 i.journeyCharged ++
  leBytes 2 i.lastExitStation ++ leBytes 4 i.lastExitMinute ++ leBytes 2 i.serviceDay ++ leBytes 2 i.dayTotal ++
  leBytes 1 i.passPresent ++ leBytes 1 i.passLow ++ leBytes 1 i.passHigh ++ leBytes 1 i.writerGate ++
  leBytes 2 i.passFirst ++ leBytes 2 i.passLast ++ leBytes 2 i.writerStation ++ leBytes 4 i.writerMinute

/-- The image that WRITE sends, with a freshly computed record check (R5). -/
def encodeImage (i : CardImage) : List Byte := withCrc16 (imageBody i)

/-- The last fare minute (00_scope.md) and the clock limit (R132). -/
def lastFareMinute : Nat := 52594559
def clockLimit : Nat := 3155673599

/-- Every field of the image lies within the values of section 1.3's table.  Log entry 15. -/
def imageInRange (i : CardImage) : Bool :=
  i.trip ≤ 2 && (-32768 : Int) ≤ i.balance && i.balance ≤ 1000000 && i.originStation ≤ 4095 && i.originZone ≤ 15 &&
  i.journeyZone ≤ 15 && i.entryMinute ≤ lastFareMinute && i.journeyStation ≤ 4095 &&
  i.journeyStart ≤ lastFareMinute && i.band ≤ 7 && i.continuations ≤ 3 && i.lastExitStation ≤ 4095 &&
  i.lastExitMinute ≤ lastFareMinute && i.passPresent ≤ 1 && i.passLow ≤ 15 && i.passHigh ≤ 15 &&
  i.writerGate ≤ 63 && i.writerStation ≤ 4095 && i.writerMinute ≤ lastFareMinute

/-- The relations between fields that R5 asks of an image. -/
def imageConsistent (i : CardImage) : Bool :=
  !(i.trip == 1 && (i.originStation == 0 || i.journeyStation == 0)) &&
  !(i.trip == 2 && i.lastExitStation == 0) &&
  !(i.passPresent == 1 && (decide (i.passHigh < i.passLow) || decide (i.passLast < i.passFirst)))

/-- The image check of R5: 50 bytes, a matching record check, format 1, every field in range, the relations held. -/
def imageGood (bs : List Byte) : Bool :=
  bs.length == 50 && crc16Holds bs 48 && (decodeImage bs).format == 1 && imageInRange (decodeImage bs) &&
  imageConsistent (decodeImage bs)

/-- The writer stamp of an image. -/
def CardImage.writer (i : CardImage) : Stamp := { station := i.writerStation, gate := i.writerGate, minute := i.writerMinute }

/-! ## The journal record -/

/-- The code of a record kind (section 8.8). -/
def JournalKind.code : JournalKind → Nat
  | .entry => 1 | .exit => 2 | .penalty => 3 | .emergencyExit => 4 | .block => 5 | .refused => 6 | .resolved => 7
  | .grant => 8 | .unused => 9 | .evasion => 10

/-- The card-writing kinds (R146). -/
def JournalKind.cardWriting : JournalKind → Bool
  | .entry | .exit | .penalty | .emergencyExit | .block => true
  | .refused | .resolved | .grant | .unused | .evasion => false

/-- The code of an outcome (section 8.8). -/
def CardOutcome.code : CardOutcome → Nat
  | .admittedEntry => 1 | .admittedExit => 2 | .honoured => 3 | .emergencyExit => 4 | .insufficient => 5 | .noEntry => 6
  | .alreadyExited => 7 | .passback => 8 | .cardBlocked => 9 | .denyListed => 10 | .cloneListed => 11
  | .cloneDetected => 12 | .counterfeit => 13 | .keyUnknown => 14 | .cardDataError => 15 | .cardExhausted => 16
  | .aisleBusy => 17 | .emergency => 18 | .aborted => 19 | .writeFailed => 20 | .torn => 21 | .lost => 22

/-- The settlements of a Recovery List entry (R79). -/
inductive Settlement where
  | done | void | superseded
  deriving DecidableEq, Repr

/-- The reason code of a settlement (section 8.8). -/
def Settlement.code : Settlement → Nat
  | .done => 32 | .void => 33 | .superseded => 34

/-- The reason codes of UNUSED and EVASION records (section 8.8). -/
def reasonMode : Nat := 40
def reasonExpired : Nat := 41
def reasonNoCredit : Nat := 48
def reasonWrongWay : Nat := 49

/-- The code of a status (section 8.8). -/
def RecordStatus.code : RecordStatus → Byte
  | .blank => 0xFF#8 | .intent => 0x7F#8 | .complete => 0x3F#8 | .uncertain => 0x5F#8 | .void => 0x6F#8
  | .final => 0xBF#8 | .damaged => 0x00#8

/-- The status of a code, if it is one. -/
def statusOfCode (b : Byte) : Option RecordStatus :=
  [RecordStatus.blank, .intent, .complete, .uncertain, .void, .final, .damaged].find? fun s => s.code == b

/-- The reader's byte in a record (section 8.8). -/
def Reader.code : Reader → Nat
  | .U => 0 | .P => 1

/-- Bytes 0 to 4 of a record (section 8.8). -/
def recordHead (r : JournalRecord) : List Byte := leBytes 4 r.seq ++ leBytes 1 r.kind.code

/-- Bytes 6 to 61 of a record (section 8.8). -/
def recordTail (r : JournalRecord) : List Byte :=
  leBytes 1 (Reader.code r.reader) ++ leBytes 1 r.reason ++ leBytes 4 r.minute ++ leBytes 8 r.number ++ leBytes 1 r.cls ++
  leBytes 1 ((if r.unclosed then 1 else 0) + (if r.referenced.isSome then 2 else 0)) ++ leBytes 2 r.counterBefore ++
  leBytes 2 r.counterAfter ++ leBytes 2 r.fare ++ leBytes 2 r.charged ++ leBytes 2 r.journeyStation ++
  signedBytes r.balance ++ leBytes 1 r.journeyZone ++ leBytes 1 r.thisZone ++ leBytes 1 r.band ++
  leBytes 1 r.denyReason ++ leBytes 2 r.dayTotal ++ leBytes 2 r.journeyCharged ++ leBytes 4 (r.referenced.getD 0) ++
  leBytes 4 r.fareVersion ++ leBytes 4 r.denyVersion ++ leBytes 2 r.station ++ leBytes 1 r.gate ++
  leBytes 1 r.second ++ leBytes 1 r.trip ++ leBytes 1 r.continuations

/-- The 64 bytes of a record with a status; the check leaves the status byte out (section 8.8). -/
def encodeRecord (r : JournalRecord) (st : RecordStatus) : List Byte :=
  recordHead r ++ [st.code] ++ recordTail r ++ leBytes 2 (crc16 (recordHead r ++ recordTail r))

/-- The check of a record's bytes matches (section 8.8). -/
def recordCheckGood (bs : List Byte) : Bool := field bs 62 2 == crc16 (slice bs 0 5 ++ slice bs 6 56)

/-! ## Control records (R170) -/

/-- The kinds of control record. -/
inductive ControlRecordKind where
  | identity | key | settings | floor
  deriving DecidableEq, Repr

/-- The code of a control record kind (log entry 8). -/
def ControlRecordKind.code : ControlRecordKind → Nat
  | .identity => 1 | .key => 2 | .settings => 3 | .floor => 4

/-- A control record of 64 bytes: kind, generation, body, CRC-16. -/
def encodeControl (k : ControlRecordKind) (generation : Nat) (body : List Byte) : List Byte :=
  withCrc16 (leBytes 1 k.code ++ leBytes 4 generation ++ body ++ List.replicate (57 - body.length) 0#8)

/-- A slot of a control sector as found: its number, its kind's code, its generation and its body. -/
structure ControlRecord where
  slot       : Nat
  kind       : Nat
  generation : Nat
  body       : List Byte
  deriving DecidableEq, Repr

/-- The address of a slot of a control sector. -/
def slotAddr (sector slot : Nat) : Nat := sectorBase sector + 64 * slot

/-- The slots of a control sector that are not blank. -/
def usedSlots (m : Memory) (sector : Nat) : List Nat :=
  if m.blank (sectorBase sector) 4096 then [] else (List.range 64).filter fun i => !m.blank (slotAddr sector i) 64

/-- The fill position of a control sector (R170): the slot after its last non-blank slot. -/
def fillPosition (m : Memory) (sector : Nat) : Nat := (usedSlots m sector).foldl (fun n i => max n (i + 1)) 0

/-- The valid records of a control sector, in slot order (R165, R170). -/
def controlRecords (m : Memory) (sector : Nat) : List ControlRecord :=
  (usedSlots m sector).filterMap fun i =>
    let bs := (m.listed (slotAddr sector i) 64).bytes (slotAddr sector i) 64
    if crc16Holds bs 62 then
      some { slot := i, kind := field bs 0 1, generation := field bs 1 4, body := slice bs 5 57 }
    else none

/-- The valid record of a kind with the highest generation in a sector (R170). -/
def recordInForce (m : Memory) (sector : Nat) (k : ControlRecordKind) : Option ControlRecord :=
  (controlRecords m sector).foldl (fun best r =>
    if r.kind = k.code then
      match best with
      | none => some r
      | some b => if b.generation < r.generation then some r else some b
    else best) none

/-- One above the highest generation of a kind that a sector holds (R171), and 1 where it holds none.
R170 ends the generations at 4,294,967,295 and says of none after it; that this counts on there, so that the four stored
bytes wrap to 0, is the model's DESIGN CHOICE, log entry 65. -/
def nextGeneration (m : Memory) (sector : Nat) (k : ControlRecordKind) : Nat :=
  match recordInForce m sector k with
  | none => 1
  | some r => r.generation + 1

/-- The body of an IDENTITY record (R170), and a lock entry's identity (R174). -/
def identityBytes (i : Identity) : List Byte := leBytes 2 i.station ++ leBytes 1 i.gate ++ leBytes 1 i.zone

/-- The identity in such bytes. -/
def identityOf (bs : List Byte) : Identity := { station := field bs 0 2, gate := field bs 2 1, zone := field bs 3 1 }

/-- A key slot in a KEY record (R170). -/
def keySlotBytes : Option KeySlot → List Byte
  | none => List.replicate 18 0#8
  | some k => leBytes 1 1 ++ leBytes 1 k.version ++ leBytes 16 k.key.toNat

/-- The key slot in such bytes. -/
def keySlotOf (bs : List Byte) : Option KeySlot :=
  if field bs 0 1 = 1 then some { version := field bs 1 1, key := BitVec.ofNat 128 (field bs 2 16) } else none

/-- The code of an aisle direction in the SETTINGS record (log entry 8). -/
def AisleDirection.code : AisleDirection → Nat
  | .entryOnly => 0 | .exitOnly => 1 | .both => 2

/-- The aisle direction of a code. -/
def aisleDirectionOf : Nat → AisleDirection
  | 0 => .entryOnly | 1 => .exitOnly | _ => .both

/-- The body of a SETTINGS record (R170, R176): every stored value, and the aisle direction in force. -/
def settingsBytes (v : Settings) (d : AisleDirection) : List Byte :=
  ([v.answerWindow, v.orientation, v.sightingAge, v.honourWindow, v.recoveryLifetime, v.groupCredits, v.creditWindow,
    v.sensorFilter, v.passageLimit, v.stuckLimit, v.closeDelay, v.startMode, v.deadtime, v.brakeInterval, v.motionLimit,
    v.slowThreshold, v.inrushBlanking, v.obstructionThreshold, v.obstructionRetries, v.reopenHold,
    v.failOpen].flatMap (leBytes 2)) ++ leBytes 1 v.polarity.toNat ++ leBytes 1 (AisleDirection.code d)

/-- The stored values in such bytes. -/
def settingsOf (bs : List Byte) : Settings :=
  let v := fun i => field bs (2 * i) 2
  { answerWindow := v 0, orientation := v 1, sightingAge := v 2, honourWindow := v 3, recoveryLifetime := v 4,
    groupCredits := v 5, creditWindow := v 6, sensorFilter := v 7, passageLimit := v 8, stuckLimit := v 9,
    closeDelay := v 10, startMode := v 11, deadtime := v 12, brakeInterval := v 13, motionLimit := v 14,
    slowThreshold := v 15, inrushBlanking := v 16, obstructionThreshold := v 17, obstructionRetries := v 18,
    reopenHold := v 19, failOpen := v 20, polarity := BitVec.ofNat 8 (field bs 42 1) }

/-- The aisle direction in such bytes. -/
def directionOf (bs : List Byte) : AisleDirection := aisleDirectionOf (field bs 43 1)

/-! ## The one-time row (R174) -/

/-- The address the model gives a lock entry: behind the 256 sectors (log entry 8). -/
def lockEntryAddr (i : Nat) : Nat := sectorBase 256 + 64 * i

/-- The bytes of a lock entry. -/
def lockEntryBytes (i : Identity) : List Byte := withCrc16 (identityBytes i)

/-- The identity of a lock entry, if the entry is valid. -/
def lockEntry (m : Memory) (i : Nat) : Option Identity :=
  let bs := m.bytes (lockEntryAddr i) 6
  if !m.blank (lockEntryAddr i) 6 && crc16Holds bs 4 then some (identityOf bs) else none

/-- The first blank lock entry from one on, or 4 (R174). -/
def blankLockFrom (m : Memory) (i : Nat) : Nat :=
  ((List.range 4).find? fun k => decide (i ≤ k) && m.blank (lockEntryAddr k) 6).getD 4

/-! ## Banks (R178, R179) -/

/-- The sector of a fare bank. -/
def fareSector : Bank → Nat
  | .A => 3 | .B => 4

/-- The first sector of a deny bank. -/
def denySector : Bank → Nat
  | .A => 7 | .B => 23

/-- The other bank. -/
def Bank.other : Bank → Bank
  | .A => .B | .B => .A

/-- The complete record of a fare bank: the version, a copy of the image's CRC-32, a CRC-16 (R178). -/
def completeRecord (version imageCrc : Nat) : List Byte := withCrc16 (leBytes 4 version ++ leBytes 4 imageCrc)

/-- An activation mark: the version and a CRC-16 (R178, R179). -/
def activationMark (version : Nat) : List Byte := withCrc16 (leBytes 4 version)

/-- The addresses of a fare bank's complete record and activation mark. -/
def completeAddr (b : Bank) : Nat := sectorBase (fareSector b) + 1024
def fareMarkAddr (b : Bank) : Nat := completeAddr b + 64

/-- The address of a deny bank's activation mark. -/
def denyMarkAddr (b : Bank) : Nat := sectorBase (denySector b) + 64

/-- Whether the bytes at an address are a valid activation mark of a version. -/
def markedWith (m : Memory) (a version : Nat) : Bool :=
  let bs := m.bytes a 6
  crc16Holds bs 4 && field bs 0 4 == version

/-- Two deny reasons to a byte, the first in the low half (log entry 8). -/
def packReasons : List Nat → List Byte
  | [] => []
  | [a] => [BitVec.ofNat 8 (a % 16)]
  | a :: b :: rest => BitVec.ofNat 8 (a % 16 + 16 * (b % 16)) :: packReasons rest

/-- The number bytes and the reason bytes of a list (R179, R190).  That the high half of an odd last reason's byte is 0 is log
entry 66. -/
def denyNumberBytes (es : List DenyEntry) : List Byte := es.flatMap fun e => leBytes 7 e.number
def denyReasonBytes (es : List DenyEntry) : List Byte := packReasons (es.map (·.reason))

/-- A deny bank's bank record: version, count, CRC-32 over the entries, CRC-16 (R179).  R179 does not say which bytes the
CRC-32 of the entries runs over: the model takes all numbers as they are packed, then all reasons as they are packed, a DESIGN
CHOICE, log entry 66; the place of the fields is log entry 8, and the CRC-32 itself log entry 7. -/
def bankRecord (version : Nat) (es : List DenyEntry) : List Byte :=
  withCrc16 (leBytes 4 version ++ leBytes 2 es.length ++ leBytes 4 (crc32 (denyNumberBytes es ++ denyReasonBytes es)))

/-- Numbers strictly ascending from above `low`. -/
def ascendingFrom (low : Nat) : List Nat → Bool
  | [] => true
  | n :: rest => decide (low < n) && ascendingFrom n rest

/-- The version and list of a valid deny bank (R179).  The bytes that the CRC-32 runs over are log entry 66. -/
def denyBankOf (m : Memory) (b : Bank) : Option (Nat × List DenyEntry) :=
  let base := sectorBase (denySector b)
  let rec_ := m.bytes base 12
  let count := field rec_ 4 2
  if m.blank base 12 || !crc16Holds rec_ 10 || decide (8192 < count) then none
  else
    let numbers := (m.listed (base + 4096) 57344).bytes (base + 4096) (7 * count)
    let reasons := (m.listed (base + 61440) 4096).bytes (base + 61440) ((count + 1) / 2)
    let es := (List.range count).map fun i =>
      { number := field numbers (7 * i) 7, reason := (field reasons (i / 2) 1 / (if i % 2 = 0 then 1 else 16)) % 16 : DenyEntry }
    if crc32 (numbers ++ reasons) = field rec_ 6 4 ∧ ascendingFrom 0 (es.map (·.number)) then some (field rec_ 0 4, es)
    else none

/-! ## Delta log and hot list -/

/-- The address of a delta slot (R194). -/
def deltaAddr (slot : Nat) : Nat := sectorBase 5 + 16 * slot

/-- The 16 bytes of a delta slot. -/
def encodeDelta (d : Delta) : List Byte :=
  withCrc16 (leBytes 1 (if d.add then 1 else 2) ++ leBytes 7 d.number ++ leBytes 1 d.reason ++ leBytes 4 d.version ++ [0#8])

/-- The delta of a slot's bytes, if they are valid. -/
def decodeDelta (bs : List Byte) : Option Delta :=
  if crc16Holds bs 14 && (field bs 0 1 == 1 || field bs 0 1 == 2) then
    some { add := field bs 0 1 == 1, number := field bs 1 7, reason := field bs 8 1, version := field bs 9 4 }
  else none

/-- The code of a criterion in a stored hot list entry (log entry 8). -/
def Criterion.code : Criterion → Nat
  | .auth => 1 | .twin => 2 | .regression => 3 | .diverged => 4

/-- The criterion of a code. -/
def criterionOf (n : Nat) : Option Criterion :=
  [Criterion.auth, .twin, .regression, .diverged].find? fun c => c.code == n

/-- The 16 bytes of a stored hot list entry; presentations-since is not stored (R36).  That its check is a CRC-16 over the
first 14 bytes is log entry 8. -/
def encodeHot (e : HotEntry) : List Byte :=
  withCrc16 (leBytes 7 e.number ++ leBytes 1 e.criterion.code ++ leBytes 4 e.minute ++ [0#8, 0#8])

/-- The entry of such bytes, if its check is good (R37). -/
def decodeHot (bs : List Byte) : Option HotEntry :=
  if crc16Holds bs 14 then
    match criterionOf (field bs 7 1) with
    | some c => some { number := field bs 0 7, criterion := c, minute := field bs 8 4, since := 0 }
    | none => none
  else none

/-- The four pages of the hot list sector: the entries in detection order, the rest left erased (R36). -/
def hotPages (es : List HotEntry) : List Byte :=
  let bs := es.flatMap encodeHot
  bs ++ List.replicate (1024 - bs.length) erasedByte

end Sys2Proof.Machine
end

