-- ==== Sys2Proof/Machine/Calendar.lean ====
section
/-! DEFINITION. The calendar of R133, the fare minute and the service day of R134, and the tariff band of R144. -/

namespace Sys2Proof.Machine

/-- The leap years of the calendar: 2004 to 2096 divisible by 4 (R133). -/
def leapYear (y : Nat) : Bool := y % 4 == 0 && decide (2004 ≤ y) && decide (y ≤ 2096)

/-- The days of a year (R133). -/
def yearLength (y : Nat) : Nat := if leapYear y then 366 else 365

/-- The days of a month of a year (R133). -/
def monthLength (y m : Nat) : Nat :=
  if m = 2 then (if leapYear y then 29 else 28) else if m = 4 ∨ m = 6 ∨ m = 9 ∨ m = 11 then 30 else 31

/-- Counting whole years from a year on: the year a day lies in, and its day of the year from 0 (R133). -/
def countYears : Nat → Nat → Nat → Nat × Nat
  | 0, y, d => (y, d)
  | fuel + 1, y, d => if d < yearLength y then (y, d) else countYears fuel (y + 1) (d - yearLength y)

/-- Counting whole months from a month on: the month a day lies in, and its day of the month from 0 (R133). -/
def countMonths : Nat → Nat → Nat → Nat → Nat × Nat
  | 0, _, m, d => (m, d)
  | fuel + 1, y, m, d => if d < monthLength y m then (m, d) else countMonths fuel y (m + 1) (d - monthLength y m)

/-- The calendar values of a seconds count (R133). -/
def calendarOf (s : Nat) : DateTime :=
  let yd := countYears 100 2000 (s / 86400)
  let md := countMonths 12 yd.1 1 yd.2
  let t := s % 86400
  { year := yd.1, month := md.1, day := md.2 + 1, hour := t / 3600, minute := t % 3600 / 60, second := t % 60 }

/-- The weekday of a seconds count, 0 = Monday (R133). -/
def weekdayOf (s : Nat) : Nat := (s / 86400 + 6) % 7

/-- The seconds count of a date and time (R133). -/
def countOf (t : DateTime) : Nat :=
  let years := ((List.range (t.year - 2000)).map fun i => yearLength (2000 + i)).sum
  let months := ((List.range (t.month - 1)).map fun i => monthLength t.year (i + 1)).sum
  86400 * (years + months + (t.day - 1)) + 3600 * t.hour + 60 * t.minute + t.second

/-- The first field of a date and time outside its range, numbered from 0 in the order of R137's table. -/
def badDateField (t : DateTime) : Option Nat :=
  if t.year < 2000 ∨ 2099 < t.year then some 0
  else if t.month < 1 ∨ 12 < t.month then some 1
  else if t.day < 1 ∨ monthLength t.year t.month < t.day then some 2
  else if 23 < t.hour then some 3
  else if 59 < t.minute then some 4
  else if 59 < t.second then some 5
  else none

/-- The fare minute of a seconds count (R134). -/
def fareMinute (s : Nat) : Nat := s / 60

/-- The service day number of a fare minute under a rollover hour (R134). -/
def serviceDay (rollover m : Nat) : Nat := (m - 60 * rollover) / 1440

/-- A schedule entry matches a fare minute (R144). -/
def ScheduleEntry.hits (e : ScheduleEntry) (m : Nat) : Bool :=
  let c := calendarOf (60 * m)
  e.used == 1 && (e.month == 0 || e.month == c.month) && (e.day == 0 || e.day == c.day) &&
  (e.weekday == 7 || e.weekday == weekdayOf (60 * m)) && decide (e.hourFirst ≤ c.hour) && decide (c.hour ≤ e.hourLast)

/-- The band for a fare minute: that of the first matching entry, or 0 (R144). -/
def bandFor (schedule : List ScheduleEntry) (m : Nat) : Nat :=
  match schedule.find? (fun e => e.hits m) with
  | some e => e.band
  | none => 0

/-- The fare minute and the second within it at this moment (R134, R147). -/
def State.minute (s : State) : Nat := fareMinute s.clock.seconds
def State.second (s : State) : Nat := s.clock.seconds % 60

end Sys2Proof.Machine
end

