-- ==== Sys2Proof/Machine/Fare.lean ====
section
/-! DEFINITION. The fare table image and its checks (section 10.1), and the Fare Engine's decisions (chapter 3). -/

namespace Sys2Proof.Machine

/-! ## The table image (R180) -/

/-- A schedule entry's eight bytes from an offset on (section 10.1). -/
def scheduleEntryAt (bs : List Byte) (o : Nat) : ScheduleEntry :=
  { used := field bs o 1, band := field bs (o + 1) 1, month := field bs (o + 2) 1, day := field bs (o + 3) 1,
    weekday := field bs (o + 4) 1, hourFirst := field bs (o + 5) 1, hourLast := field bs (o + 6) 1 }

/-- The table of an image, each field taken from its offset (section 10.1). -/
def tableOf (bs : List Byte) : FareTable :=
  { version := field bs 0 4, effective := field bs 4 4, step := field bs 13 1, rollover := field bs 14 1,
    maxContinuations := field bs 15 1, bandPercent := (List.range 8).map fun k => field bs (16 + k) 1,
    classPercent := (List.range 8).map fun k => field bs (24 + k) 1,
    cap := (List.range 8).map fun k => field bs (32 + 2 * k) 2, overstayLimit := field bs 48 2,
    overstaySurcharge := field bs 50 2, entryMinimum := field bs 52 2, overdraft := field bs 54 2,
    tripExpiry := field bs 56 2, penalty := field bs 58 2, continuationWindow := field bs 60 1,
    passbackInterval := field bs 61 1, sameStationGrace := field bs 62 1,
    fareMatrix := (List.range 256).map fun k => field bs (64 + 2 * k) 2,
    schedule := (List.range 32).map fun k => scheduleEntryAt bs (576 + 8 * k) }

/-- The image check's bytes: all 1,024, with bytes 8 to 11 taken as zero (R180). -/
def imageCrc (bs : List Byte) : Nat := crc32 (slice bs 0 8 ++ List.replicate 4 0#8 ++ slice bs 12 1012)

/-- The image check matches (R180). -/
def imageCheckMatches (bs : List Byte) : Bool := field bs 8 4 == imageCrc bs

/-- The checks of one schedule entry, by offset (R180). -/
def scheduleChecks (bs : List Byte) (o : Nat) : List (Nat × Bool) :=
  let v := fun i => field bs (o + i) 1
  [(o, decide (v 0 ≤ 1)), (o + 1, decide (v 1 ≤ 7)), (o + 2, decide (v 2 ≤ 12)), (o + 3, decide (v 3 ≤ 31)),
   (o + 4, decide (v 4 ≤ 7)), (o + 5, decide (v 5 ≤ 23)), (o + 6, decide (v 6 ≤ 23) && decide (v 5 ≤ v 6)),
   (o + 7, v 7 == 0)]

/-- The range checks in ascending order of offset (R180): the offset of the field's first byte, or that of the one entry or
byte in the daily caps, the matrix and the schedule, and whether it lies in its values. -/
def rangeChecks (bs : List Byte) : List (Nat × Bool) :=
  let upTo := fun o n greatest => (o, decide (field bs o n ≤ greatest))
  let between := fun o n low high => (o, decide (low ≤ field bs o n) && decide (field bs o n ≤ high))
  [between 0 4 1 4294967295, upTo 4 4 lastFareMinute, (12, field bs 12 1 == 1),
   (13, [1, 2, 5, 10, 20, 25, 50, 100].contains (field bs 13 1)), upTo 14 1 6, upTo 15 1 3] ++
  (List.range 8).map (fun k => (16, (between (16 + k) 1 50 250).2)) ++
  (List.range 8).map (fun k => (24, (upTo (24 + k) 1 100).2)) ++
  (List.range 8).map (fun k => upTo (32 + 2 * k) 2 20000) ++
  [between 48 2 30 600, upTo 50 2 5000, upTo 52 2 10000, upTo 54 2 5000, between 56 2 60 1440, upTo 58 2 20000,
   upTo 60 1 120, upTo 61 1 60, upTo 62 1 60, (63, field bs 63 1 == 0)] ++
  (List.range 256).map (fun k => upTo (64 + 2 * k) 2 20000) ++
  (List.range 32).flatMap (fun k => scheduleChecks bs (576 + 8 * k)) ++
  (List.range 192).map (fun k => (832, field bs (832 + k) 1 == 0))

/-- The offset at which an image offends, or none when it is valid (R180). -/
def imageOffence (bs : List Byte) : Option Nat :=
  if imageCheckMatches bs then
    match (rangeChecks bs).find? (fun c => !c.2) with
    | some c => some c.1
    | none => none
  else some 8

/-- A bank as the scan finds it (R178): its image, if the bank is valid. -/
def fareBankImage (m : Memory) (b : Bank) : Option (List Byte) :=
  let base := sectorBase (fareSector b)
  let image := (m.listed base 1024).bytes base 1024
  let done := (m.listed (base + 1024) 16).bytes (base + 1024) 10
  if m.blank (base + 1024) 10 then none
  else if crc16Holds done 8 ∧ imageOffence image = none ∧ field done 4 4 = field image 8 4 ∧
      field done 0 4 = field image 0 4 then some image
  else none

/-! ## The arithmetic of a fare (section 3.4) -/

/-- What a decision has before it (R51). -/
structure FareCase where
  table : FareTable
  here  : Identity
  now   : Nat
  cls   : Nat
  image : CardImage
  deriving DecidableEq, Repr

/-- The current service day number (R51). -/
def FareCase.day (c : FareCase) : Nat := serviceDay c.table.rollover c.now

/-- The three elapsed times; a negative one counts as 0 (R51). -/
def FareCase.tripAge (c : FareCase) : Nat := c.now - c.image.entryMinute
def FareCase.exitAge (c : FareCase) : Nat := c.now - c.image.lastExitMinute
def FareCase.duration (c : FareCase) : Nat := c.now - c.image.journeyStart

/-- The day total after the day check (R52). -/
def FareCase.dayTotal (c : FareCase) : Nat := if c.image.serviceDay = c.day then c.image.dayTotal else 0

/-- A valid pass that covers a zone (R53). -/
def FareCase.passCovers (c : FareCase) (zone : Nat) : Bool :=
  c.image.passPresent == 1 && decide (c.image.passFirst ≤ c.day) && decide (c.day ≤ c.image.passLast) &&
  decide (c.image.passLow ≤ zone) && decide (zone ≤ c.image.passHigh)

/-- Stages 1 and 2: the nominal fare (R64). -/
def nominalFare (base band cls : Nat) : Nat := (base * band * cls + 5000) / 10000

/-- Stage 3: the nearest multiple of the fare step, an exact half rounded up (R65). -/
def stepFare (step f0 : Nat) : Nat :=
  let r := f0 % step
  if step ≤ 2 * r then f0 - r + step else f0 - r

/-- An entry of the base fare matrix, and the largest of a row (R55). -/
def FareTable.base (t : FareTable) (o e : Nat) : Nat := t.fareMatrix.getD (16 * o + e) 0
def FareTable.dearest (t : FareTable) (o : Nat) : Nat := ((List.range 16).map (t.base o)).foldl max 0

/-- The class percentage and the daily cap of the card's class. -/
def FareCase.classPercent (c : FareCase) : Nat := c.table.classPercent.getD c.cls 0
def FareCase.cap (c : FareCase) : Nat := c.table.cap.getD c.cls 0

/-- The unclosed fare of an origin zone (R55). -/
def FareCase.unclosedFare (c : FareCase) (zone : Nat) : Nat :=
  stepFare c.table.step (nominalFare (c.table.dearest zone) 100 c.classPercent)

/-- Stage 6: the daily cap (R68). -/
def capCharge (cap total d0 : Nat) : Nat :=
  if cap = 0 then d0 else if cap ≤ total then 0 else min d0 (cap - total)

/-- A sum held at 65,535 (R70). -/
def saturate (n : Nat) : Nat := min n 65535

/-- What a decision hands the session (R71, R72). -/
inductive Ruling where
  | accept (d : Decision)
  | refuse (outcome : CardOutcome) (fare charge dayTotal : Nat)
  deriving DecidableEq, Repr

/-- The new image's format, pass fields and writer stamp (R5), its other fields as read. -/
def FareCase.blankImage (c : FareCase) : CardImage :=
  let p := c.image.passPresent
  { c.image with
    format := 1
    passLow := if p = 1 then c.image.passLow else 0, passHigh := if p = 1 then c.image.passHigh else 0,
    passFirst := if p = 1 then c.image.passFirst else 0, passLast := if p = 1 then c.image.passLast else 0,
    writerStation := c.here.station, writerGate := c.here.gate, writerMinute := c.now }

/-! ## The entry decision (section 3.2) -/

/-- The refusal PASSBACK (R54). -/
def FareCase.passback (c : FareCase) : Bool :=
  c.image.trip == 1 && c.image.originStation == c.here.station && c.table.passbackInterval != 0 &&
  decide (c.tripAge < c.table.passbackInterval)

/-- The journey of the new trip continues an interrupted one (R56). -/
def FareCase.continues (c : FareCase) : Bool :=
  c.image.trip == 2 && c.image.lastExitStation != c.here.station && decide (c.exitAge ≤ c.table.continuationWindow) &&
  decide (c.image.continuations < c.table.maxContinuations)

/-- The new image's journey fields (R56). -/
def FareCase.withJourney (c : FareCase) (i : CardImage) : CardImage :=
  if c.continues then { i with continuations := c.image.continuations + 1 }
  else
    { i with journeyStation := c.here.station, journeyZone := c.here.zone, journeyStart := c.now,
             band := bandFor c.table.schedule c.now, journeyCharged := 0, continuations := 0 }

/-- The entry decision at reader U (R54 to R58). -/
def entryDecision (c : FareCase) : Ruling :=
  if c.passback then .refuse .passback 0 0 c.dayTotal
  else
    let unclosed := c.image.trip == 1
    let fare := if unclosed then c.unclosedFare c.image.journeyZone else 0
    let charge := if unclosed then capCharge c.cap c.dayTotal fare else 0
    let left : Int := c.image.balance - charge
    if left < -(c.table.overdraft : Int) ∨ (left < (c.table.entryMinimum : Int) ∧ c.passCovers c.here.zone = false) then
      .refuse .insufficient fare charge c.dayTotal
    else
      .accept
        { image := { c.withJourney c.blankImage with
            trip := 1, originStation := c.here.station, originZone := c.here.zone, entryMinute := c.now,
            balance := left, serviceDay := c.day, dayTotal := saturate (c.dayTotal + charge) },
          kind := .entry, unclosed := unclosed, fare := fare, charge := charge, direction := .inbound, minute := c.now }

/-! ## The exit decision (section 3.3) -/

/-- The fare F2 of an open trip (R61, R64 to R66). -/
def FareCase.exitFare (c : FareCase) : Nat :=
  let passFree := c.passCovers c.image.journeyZone && c.passCovers c.here.zone
  if c.table.tripExpiry < c.tripAge then (if passFree then 0 else c.unclosedFare c.image.journeyZone)
  else if c.image.journeyStation = c.here.station ∧ c.image.continuations = 0 ∧ c.duration ≤ c.table.sameStationGrace then 0
  else if passFree then 0
  else
    let f1 := stepFare c.table.step (nominalFare (c.table.base c.image.journeyZone c.here.zone)
      (c.table.bandPercent.getD c.image.band 0) c.classPercent)
    if c.table.overstayLimit < c.duration then f1 + c.table.overstaySurcharge else f1

/-- The balance stage and the new image of an exit (R62, R69, R70). -/
def FareCase.closeTrip (c : FareCase) (kind : JournalKind) (fare charge : Nat) (i : CardImage) : Ruling :=
  let left : Int := c.image.balance - charge
  if left < -(c.table.overdraft : Int) then .refuse .insufficient fare charge c.dayTotal
  else
    .accept
      { image := { i with
          trip := 2, lastExitStation := c.here.station, lastExitMinute := c.now, balance := left,
          serviceDay := c.day, dayTotal := saturate (c.dayTotal + charge) },
        kind := kind, unclosed := false, fare := fare, charge := charge, direction := .outbound, minute := c.now }

/-- The penalty (R60). -/
def FareCase.penalty (c : FareCase) : Ruling :=
  let charge := capCharge c.cap c.dayTotal c.table.penalty
  c.closeTrip .penalty c.table.penalty charge
    { c.blankImage with
      originStation := c.here.station, originZone := c.here.zone, journeyStation := c.here.station,
      journeyZone := c.here.zone, entryMinute := c.now, journeyStart := c.now,
      band := bandFor c.table.schedule c.now, continuations := 0, journeyCharged := saturate charge }

/-- The refusal ALREADY_EXITED (R59). -/
def FareCase.alreadyExited (c : FareCase) : Bool :=
  c.image.lastExitStation == c.here.station && c.table.passbackInterval != 0 &&
  decide (c.exitAge < c.table.passbackInterval)

/-- The exit decision at reader P outside EMERGENCY (R59 to R62). -/
def exitDecision (c : FareCase) : Ruling :=
  if c.image.trip = 1 then
    let fare := c.exitFare
    let charge := capCharge c.cap c.dayTotal (fare - c.image.journeyCharged)
    c.closeTrip .exit fare charge { c.blankImage with journeyCharged := saturate (c.image.journeyCharged + charge) }
  else if c.alreadyExited then .refuse .alreadyExited 0 0 c.dayTotal
  else if c.table.penalty = 0 then .refuse .noEntry 0 0 c.dayTotal
  else c.penalty

/-- The emergency exit (R63). -/
def emergencyExitDecision (c : FareCase) : Ruling :=
  if c.image.trip = 1 then c.closeTrip .emergencyExit 0 0 c.blankImage
  else .refuse .noEntry 0 0 c.dayTotal

end Sys2Proof.Machine
end

