-- ==== Sys2Proof/Machine/Arbiter.lean ====
section
/-! DEFINITION. The store arbiter (section 9.2): which operation starts next, the jobs' and the journal's steps, and how
an operation ends. -/

namespace Sys2Proof.Machine

/-! ## Control sectors (section 9.3) -/

/-- The fill position of a control sector (R170). -/
def Store.fill (st : Store) : Nat → Nat
  | 0 => st.fill0 | 1 => st.fill1 | _ => st.fill2

/-- The store with a control sector's fill position replaced. -/
def Store.setFill (st : Store) (sector x : Nat) : Store :=
  match sector with
  | 0 => { st with fill0 := x } | 1 => { st with fill1 := x } | 2 => { st with fill2 := x } | _ => st

/-- The fill position of a control sector is taken from its bytes again (R170); the other sectors have none.  Log entry 53. -/
def Store.refill (st : Store) (sector : Nat) : Store :=
  if sector < 3 then st.setFill sector (fillPosition st.memory sector) else st

/-- A control sector whose fill position lies beyond slot 63 is full (R170). -/
def Store.full (st : Store) (sector : Nat) : Bool := decide (63 < st.fill sector)

/-- One control record programmed at the fill position of a sector, with the next generation (R171). -/
def Store.controlProgram (st : Store) (sector : Nat) (k : ControlRecordKind) (body : List Byte) : StoreAction :=
  .program .recordProgram (slotAddr sector (st.fill sector)) (encodeControl k (nextGeneration st.memory sector k) body)

/-- What the RAM holds for each control record (R171, R176). -/
def State.identityBody (s : State) : List Byte := identityBytes (s.station.identity.getD default)
def State.keyBody (s : State) : List Byte := keySlotBytes s.check.key0 ++ keySlotBytes s.check.key1
def State.settingsBody (s : State) : List Byte := settingsBytes s.settings.stored s.aisle.direction
def floorBody (f : Nat) : List Byte := leBytes 4 f

/-- The IDENTITY record in force follows in a refresh only while the identity is set and not locked (R172). -/
def State.identityToRestore (s : State) : Option Identity :=
  if s.station.identity.isSome && decide (s.station.lock ≠ .locked) then s.store.identityKept else none

/-- The floor in force stands in a valid FLOOR record of one of the sectors (R172). -/
def State.floorIn (s : State) (sectors : List Nat) : Bool :=
  sectors.any fun k => (controlRecords s.store.memory k).any fun r =>
    decide (r.kind = ControlRecordKind.floor.code) && (field r.body 0 4 == s.journal.floor)

/-- Of the control sectors, only sector 2 holds the floor in force.  Log entry 57. -/
def State.floorOnlyIn2 (s : State) : Bool := decide (s.journal.floor ≠ 0) && s.floorIn [2] && !s.floorIn [0, 1]

/-- A write to sector 0 and, when the sector is full, its refresh (R172).  Stage 0 begins; 1 and 2 refresh sector 2 and
put the floor there; 3 erases sector 0, once the floor in force stands outside it; 4 and 5 put back the floor and the
IDENTITY record; 6 programs the record that called for it, unless 4 or 5 has written it.  A sector that floor programs of the
journal have filled meanwhile, or a floor that they have raised, lets the write begin again.  The result is the operation
and the stage after it.  5 writes the IDENTITY record that was in force before the erase (log entry 48); a sector 2 that alone
holds the floor in force is not refreshed, for step 1 is met by it (log entry 57). -/
def State.sector0Step (s : State) (k : ControlRecordKind) (body : List Byte) (stage : Nat) : StoreAction × Option Nat :=
  let st := s.store
  let record := (st.controlProgram 0 k body, none)
  let floor := fun sector => st.controlProgram sector .floor (floorBody s.journal.floor)
  let start :=
    if !st.full 0 then record
    else if !st.full 2 then (floor 2, some 3)
    else if !st.full 1 then (floor 1, some 3)
    else if s.floorOnlyIn2 then (.erase 0, some 4)
    else (.erase 2, some 1)
  let afterFloor := if k = .floor ∧ body = floorBody s.journal.floor then none else some 6
  match stage with
  | 1 => if st.full 2 then start else (st.controlProgram 2 .settings s.settingsBody, some 2)
  | 2 => if st.full 2 then start else (floor 2, some 3)
  | 3 => if st.full 0 ∧ s.floorIn [1, 2] = true then (.erase 0, some 4) else start
  | 4 => if st.full 0 then start else (floor 0, if s.identityToRestore.isSome then some 5 else afterFloor)
  | 5 =>
    if st.full 0 then start
    else
      match s.identityToRestore with
      | some kept =>
        (st.controlProgram 0 .identity (identityBytes kept),
         if k = .identity ∧ body = identityBytes kept then none else afterFloor)
      | none => record
  | _ => start

/-- A write to sector 1 or 2: the record, behind a refresh when the sector is full (R171).  Sector 0 holds the floor in force
before the sector is erased; where a refresh of it that failed or was torn has left it without, the floor is written there
first, with sector 0's own refresh when that is full (log entry 57). -/
def State.refreshStep (s : State) (sector : Nat) (record : StoreAction) (stage : Nat) : StoreAction × Option Nat :=
  if !s.store.full sector then (record, none)
  else if stage < 4 ∧ (s.journal.floor = 0 ∨ s.floorIn [0] = true) then (.erase sector, some 0)
  else
    let o := s.sector0Step .floor (floorBody s.journal.floor) stage
    (o.1, some (o.2.getD 0))

/-! ## Jobs (R166) -/

/-- The pages that n bytes fill, the last one in part. -/
def pagesFor (n : Nat) : Nat := (n + 255) / 256

/-- The operations of a deny bank job (R190): 16 erases, the number pages, the reason pages, the bank record. -/
def denyBankStep (b : Bank) (version : Nat) (es : List DenyEntry) (step : Nat) : StoreAction × Option Nat :=
  let base := sectorBase (denySector b)
  let numbers := denyNumberBytes es
  let reasons := denyReasonBytes es
  let pn := pagesFor numbers.length
  let pr := pagesFor reasons.length
  if step < 16 then (.erase (denySector b + step), some (step + 1))
  else if step < 16 + pn then
    (.program .pageProgram (base + 4096 + 256 * (step - 16)) (pageOf numbers (step - 16)), some (step + 1))
  else if step < 16 + pn + pr then
    (.program .pageProgram (base + 61440 + 256 * (step - 16 - pn)) (pageOf reasons (step - 16 - pn)), some (step + 1))
  else (.program .recordProgram base (bankRecord version es), none)

/-- The image of an ARMING or ARMED table. -/
def Staged.image : Staged → List Byte
  | .empty => []
  | .arming i => i
  | .armed i => i

/-- The operations of an arm job (R183): the erase, four pages, the complete record. -/
def armStep (b : Bank) (image : List Byte) (step : Nat) : StoreAction × Option Nat :=
  let base := sectorBase (fareSector b)
  if step = 0 then (.erase (fareSector b), some 1)
  else if step < 5 then (.program .pageProgram (base + 256 * (step - 1)) (pageOf image (step - 1)), some (step + 1))
  else (.program .recordProgram (completeAddr b) (completeRecord (field image 0 4) (field image 8 4)), none)

/-- The next operation of a job, and the step after it. -/
def State.jobStep (s : State) (j : Job) : StoreAction × Option Nat :=
  match j.kind with
  | .control .identity => s.sector0Step .identity s.identityBody j.step
  | .control .key =>
    s.refreshStep 1 (s.store.controlProgram 1 .key s.keyBody) j.step
  | .control .settings =>
    s.refreshStep 2 (s.store.controlProgram 2 .settings s.settingsBody) j.step
  | .lockEntry =>
    (.program .recordProgram (lockEntryAddr s.station.nextLock) (lockEntryBytes (s.station.identity.getD default)), none)
  | .deltaSlot slot d => (.program .recordProgram (deltaAddr slot) (encodeDelta d), none)
  | .hotRewrite snapshot =>
    if j.step = 0 then (.erase 6, some 1)
    else
      (.program .pageProgram (sectorBase 6 + 256 * (j.step - 1)) (pageOf (hotPages snapshot) (j.step - 1)),
       if j.step < 4 then some (j.step + 1) else none)
  | .arm b => armStep b s.loader.staged.image j.step
  | .fareMark b v => (.program .recordProgram (fareMarkAddr b) (activationMark v), none)
  | .withdrawal b => (.program .recordProgram (completeAddr b) (List.replicate 10 0#8), none)
  | .denyBank b => denyBankStep b s.loader.listVersion s.loader.list j.step
  | .denyMark b v => (.program .recordProgram (denyMarkAddr b) (activationMark v), none)
  | .logErase => (.erase 5, none)

/-- A job as its first operation starts: a hot list rewrite writes the list as it stands then (R36). -/
def State.startedJob (s : State) (j : Job) : Job :=
  match j.kind with
  | .hotRewrite _ => if j.running then j else { j with kind := .hotRewrite s.check.hotList, running := true }
  | _ => { j with running := true }

/-- A job waits at the end of the line (R166). -/
def State.queueJob (k : JobKind) (s : State) : State :=
  { s with store := { s.store with jobs := s.store.jobs ++ [{ kind := k, step := 0, running := false }] } }

/-- A job of the kind waits and has not started. -/
def Store.jobWaits (st : Store) (p : JobKind → Bool) : Bool := st.jobs.any fun j => p j.kind && !j.running

/-! ## The journal's work (R152, R159) -/

/-- The status byte's address of a position (section 8.8). -/
def statusAddr (p : Nat) : Nat := positionAddr p + 5

/-- The operation of a staging entry (R149, R152). -/
def StagingEntry.action : StagingEntry → StoreAction
  | .record rec pos _ =>
    .program .recordProgram (positionAddr pos) (encodeRecord rec (if rec.kind.cardWriting then .intent else .final))
  | .mark pos st _ => .program .statusMark (statusAddr pos) [st.code]
  | .damagedMark pos => .program .statusMark (statusAddr pos) [RecordStatus.damaged.code]

/-- The state of a sector. -/
def Journal.sector (j : Journal) (k : Nat) : SectorState := j.sectors.getD k .filled

/-- The oldest WAITING sector, in ring order from the write position's sector on (R155, R159). -/
def Journal.oldestWaiting (j : Journal) : Option Nat :=
  ((List.range journalSectors).map fun i => (j.writePos / 64 + i) % journalSectors).find? fun k =>
    decide (j.sectors[k]? = some .waiting)

/-- The floor that an erase of a sector needs: the highest number of its records, or the floor in force if higher (R154).
The known number of a DAMAGED position counts too (log entry 47). -/
def Journal.floorFor (j : Journal) (sector : Nat) : Nat :=
  (j.positions.filter fun p => p.pos / 64 == sector).foldl (fun f p => max f (p.seq.getD 0)) j.floor

/-- The journal takes up erase work: the oldest WAITING sector, beginning with its floor program (R154, R159). -/
def Journal.takeUpErase (j : Journal) : Journal :=
  match j.eraseWork with
  | .idle =>
    match j.oldestWaiting with
    | some k => { j with eraseWork := .floor k (j.floorFor k) 0 }
    | none => j
  | _ => j

/-- The operation that the journal's erase work asks for, its owner and the step after it. -/
def State.eraseOffer (s : State) : Option (StoreAction × OpOwner × Option Nat) :=
  match s.journal.eraseWork with
  | .floor _ value stage =>
    let st := s.sector0Step .floor (floorBody value) stage
    some (st.1, .floorWrite, st.2)
  | .erase k => some (.erase (39 + k), .journalErase k, none)
  | .idle => none
  | .held => none

/-- The next operation of a program that the start-up scan makes, and the step after it: the write of the SETTINGS defaults
first refreshes a full sector, as every control record write does (R160, R171, R176). -/
def State.scanAction (s : State) : ScanOp → StoreAction × Option Nat
  | .settingsDefaults stage =>
    s.refreshStep 2 (s.store.controlProgram 2 .settings (settingsBytes Settings.defaults .both)) stage
  | .mark pos st => (.program .statusMark (statusAddr pos) [st.code], none)

/-! ## Starting and ending an operation (R164, R166 to R168) -/

/-- An operation starts with its full maximum time (R164). -/
def State.startOp (a : StoreAction) (owner : OpOwner) (next : Option Nat) (s : State) : State :=
  { s with store := { s.store with
      op := some { action := a, owner := owner, next := next, deadline := some (s.now + a.kind.maxTime) } } }

/-- The front job's next operation starts. -/
def State.startJob (s : State) : State :=
  match s.store.jobs with
  | [] => s
  | j :: rest =>
    let t := { s with store := { s.store with jobs := s.startedJob j :: rest } }
    let st := t.jobStep (s.startedJob j)
    t.startOp st.1 .job st.2

/-- The arbiter, with the store idle and no supply warning: journal work first, then the front job (R166); during the
scan, the scan's own programs (R177). -/
def State.startStore (s : State) : State :=
  if s.store.op.isSome ∨ s.supplyWarning = true then s
  else
    match s.phase with
    | .off => s
    | .inReset => s
    | .scanning =>
      match s.scanWork with
      | [] => s
      | w :: _ => s.startOp (s.scanAction w).1 .scan (s.scanAction w).2
    | .running =>
      match s.journal.staging with
      | e :: _ => s.startOp e.action .staging none
      | [] =>
        let t := { s with journal := s.journal.takeUpErase }
        match t.eraseOffer with
        | some o => t.startOp o.1 o.2.1 o.2.2
        | none => t.startJob

/-- The operation in progress that is not suspended. -/
def State.runningOp (s : State) : Option StoreOp := if s.supplyWarning then none else s.store.op

/-- Whether an operation is to be reported programmed: the store did it, and it reads back as asked (R164). -/
def State.opSucceeds (ok : Bool) (op : StoreOp) (s : State) : Bool :=
  ok && (s.store.memory.carryOut op.action).verifies op.action

/-- An operation ends (R164, R167): its bytes stand as programmed, or as far as it came, a control sector's fill position
follows them, and a failure raises STORE_FAULT and is counted.  The erase of sector 0 keeps the identity of the IDENTITY record in
force for the refresh that goes on (R172).  Log entry 48. -/
def State.endOp (ok : Bool) (op : StoreOp) (s : State) : State :=
  let success := s.opSucceeds ok op
  let memory := if ok then s.store.memory.carryOut op.action else s.store.memory.tearAction s.free op.action
  let kept := if op.action = .erase 0 then (recordInForce s.store.memory 0 .identity).map fun r => identityOf r.body
    else s.store.identityKept
  let store := ({ s.store with memory := memory, op := none, identityKept := kept }).refill op.action.sector
  let t := { s with store := store, free := if ok then s.free else s.free + op.action.draws }
  if success then t
  else
    { t with store := { store with faultCount := bump store.faultCount 65535,
                                   latestFault := some (op.action.kind, op.action.sector) } }.raise .storeFault

/-- A reset or a supply loss ends the operation in progress, or a suspended one: it is torn (R169). -/
def State.tearStore (s : State) : State :=
  match s.store.op with
  | none => s
  | some op =>
    { s with store := { s.store with memory := s.store.memory.tearAction s.free op.action, op := none },
             free := s.free + op.action.draws }

/-- The front job moves to its next step, or ends. -/
def State.jobAdvance (next : Option Nat) (s : State) : State :=
  match s.store.jobs with
  | [] => s
  | j :: rest =>
    match next with
    | some n => { s with store := { s.store with jobs := { j with step := n } :: rest } }
    | none => { s with store := { s.store with jobs := rest } }

/-! ## Writes that are queued at most once (R36, R171) -/

/-- A control record write is queued unless one of its kind waits (R171).  Log entry 40. -/
def State.queueControl (k : ControlKind) (s : State) : State :=
  if s.store.jobWaits (fun j => decide (j = .control k)) then s else s.queueJob (.control k)

/-- Whether a job is a hot list rewrite. -/
def JobKind.isRewrite : JobKind → Bool
  | .hotRewrite _ => true
  | _ => false

/-- A hot list rewrite is queued unless one waits (R36). -/
def State.queueRewrite (s : State) : State :=
  if s.store.jobWaits JobKind.isRewrite then s else s.queueJob (.hotRewrite [])

end Sys2Proof.Machine
end

