-- ==== Sys2Proof/Machine/Journal.lean ====
section
/-! DEFINITION. The Transaction Journal's operations: room, entering, marks, the waiting line, release, and the journal
scan (chapter 8). -/

namespace Sys2Proof.Machine

/-! ## Room (R150, R151, R156) -/

/-- The free entries of the staging queue (R150). -/
def Journal.freeEntries (j : Journal) : Nat := 8 - j.staging.length - j.reservations

/-- The free positions (R156): 64 for each ERASED sector, and the CURRENT sector's from the write position on. -/
def Journal.freePositions (j : Journal) : Nat :=
  64 * (j.sectors.count .erased) +
  (if j.sectors[j.writePos / 64]? = some .current then 64 - j.writePos % 64 else 0)

/-- The greatest sequence number (R153). -/
def maxSequence : Nat := 4294967295

/-- The condition of JOURNAL_LOW (R156). -/
def Journal.low (j : Journal) : Bool := decide (j.freePositions < 512)

/-- The condition of JOURNAL_FULL (R153, R156). -/
def Journal.full (j : Journal) : Bool := decide (j.freePositions = 0) || decide (maxSequence < j.nextSeq)

/-- The position that the next record takes is free: the write position stands in the CURRENT sector (R151, R155).  It does
not while that sector waits for its erase, even with ERASED sectors elsewhere (log entry 62). -/
def Journal.positionFree (j : Journal) : Bool := decide (j.sectors[j.writePos / 64]? = some .current)

/-- The journal has room for a record that takes `n` staging entries: entries, a position for it and a number (R151, R153). -/
def Journal.room (j : Journal) (n : Nat) : Bool := decide (n ≤ j.freeEntries) && !j.full && j.positionFree

/-- The staging entries a record takes on entering (R151). -/
def JournalKind.entries (k : JournalKind) : Nat := if k.cardWriting then 2 else 1

/-! ## Entering (R147, R151, R153, R155) -/

/-- The write position moves on; a filled sector gives way to the next in ring order, when that is ERASED (R155). -/
def Journal.advance (j : Journal) : Journal :=
  let k := j.writePos / 64
  if j.writePos % 64 = 63 then
    let n := (k + 1) % journalSectors
    let filled := j.sectors.set k .filled
    { j with writePos := 64 * n,
             sectors := if j.sectors[n]? = some .erased then filled.set n .current else filled }
  else { j with writePos := j.writePos + 1 }

/-- A record takes the next sequence number and position, and its program the newest place of the queue (R151). -/
def Journal.enter (j : Journal) (rec : JournalRecord) (owner : RecordOwner) : Journal :=
  { j.advance with
    nextSeq := j.nextSeq + 1, newestAssigned := j.nextSeq,
    reservations := j.reservations + (if rec.kind.cardWriting then 1 else 0),
    staging := j.staging ++ [.record { rec with seq := j.nextSeq } j.writePos owner],
    positions := j.positions ++
      [{ pos := j.writePos, seq := some j.nextSeq, status := if rec.kind.cardWriting then .intent else .final,
         reported := false, unverified := false, released := false }] }

/-- JOURNAL_LOW and JOURNAL_FULL are tested when a record takes a position (R156). -/
def State.raiseJournalLevels (before : Journal) (s : State) : State :=
  (s.raiseIf (s.journal.low && !before.low) .journalLow).raiseIf (s.journal.full && !before.full) .journalFull

/-- A record enters the staging queue, with the station and gate of the identity record, or 0 and 0 (R147). -/
def State.enterRecord (rec : JournalRecord) (owner : RecordOwner) (s : State) : State :=
  let here := s.station.identity.getD { station := 0, gate := 0, zone := 0 }
  let t := { s with journal := s.journal.enter { rec with station := here.station, gate := here.gate } owner }
  t.raiseJournalLevels s.journal

/-- An UNUSED or EVASION record enters, or is discarded; a discard for want of a free position sets JOURNAL_FULL (R151).  Log entry 62. -/
def State.offerRecord (rec : JournalRecord) (s : State) : State :=
  if s.journal.room 1 then s.enterRecord rec .single
  else s.raiseIf (s.journal.full || !s.journal.positionFree) .journalFull

/-- A record as it is made at this moment: its time and the versions in force (R147).  For a record that no session makes
the deny list version is log entry 45. -/
def State.draftRecord (kind : JournalKind) (reader : Reader) (reason : Nat) (s : State) : JournalRecord :=
  { seq := 0, kind := kind, reader := reader, reason := reason, minute := s.minute, number := 0, cls := 0,
    unclosed := false, referenced := none, counterBefore := 0, counterAfter := 0, fare := 0, charged := 0,
    journeyStation := 0, balance := 0, journeyZone := 0, thisZone := 0, band := 0, denyReason := 0, dayTotal := 0,
    journeyCharged := 0, fareVersion := (s.fare.map (·.version)).getD 0, denyVersion := s.check.denyVersion,
    station := 0, gate := 0, second := s.second, trip := 0, continuations := 0 }

/-! ## Marks (R148, R149, R150) -/

/-- A position's status changes. -/
def Journal.setStatus (j : Journal) (pos : Nat) (st : RecordStatus) : Journal :=
  { j with positions := j.positions.map fun p => if p.pos = pos then { p with status := st } else p }

/-- The position of the record with a sequence number. -/
def Journal.posOf (j : Journal) (seq : Nat) : Option Nat := (j.positions.find? fun p => p.seq == some seq).map (·.pos)

/-- A mark enters at the newest end, in the place its reservation kept; the record takes its status then (R148, R150). -/
def Journal.enterMark (j : Journal) (pos : Nat) (st : RecordStatus) (prepared : Option RecoveryEntry) : Journal :=
  { j.setStatus pos st with
    staging := j.staging ++ [.mark pos st prepared], reservations := j.reservations - 1 }

/-- The mark of the record with a sequence number enters. -/
def State.markRecord (seq : Nat) (st : RecordStatus) (prepared : Option RecoveryEntry) (s : State) : State :=
  match s.journal.posOf seq with
  | some pos => { s with journal := s.journal.enterMark pos st prepared }
  | none => s

/-! ## The waiting line (R151) -/

/-- An item joins the waiting line. -/
def State.joinLine (r : Reader) (item : WaitItem) (s : State) : State :=
  { s with journal := { s.journal with waiting := s.journal.waiting ++ [{ reader := r, item := item }] } }

/-- The records in a reader's pending record slot (R22, R83). -/
def Journal.slot (j : Journal) (r : Reader) : List JournalRecord :=
  j.waiting.filterMap fun w => if w.reader = r then (match w.item with | .record rec => some rec | .intent => none) else none

/-- A REFUSED or RESOLVED record enters, or waits in the session's pending record slot; it does not pass one that began to
wait before it (R22, R151). -/
def State.submitRecord (r : Reader) (rec : JournalRecord) (s : State) : State :=
  if s.journal.waiting.isEmpty && s.journal.room 1 then s.enterRecord rec .single else s.joinLine r (.record rec)

/-! ## Reading and releasing (R157, R158) -/

/-- A position that holds a record: not one that is DAMAGED. -/
def Position.isRecord (p : Position) : Bool := decide (p.status ≠ .damaged)

/-- The unreleased positions, oldest first. -/
def Journal.unreleased (j : Journal) : List Position := j.positions.filter fun p => !p.released

/-- Where `jread` begins: the oldest unreleased position for 0 and for a start below the oldest unreleased record, otherwise
the first record at or above the start (R157). -/
def readFrom (start : Nat) (ps : List Position) : List Position :=
  match ps.find? Position.isRecord with
  | some oldest =>
    if start = 0 ∨ start < oldest.seq.getD 0 then ps
    else ps.dropWhile fun p => !(p.isRecord && decide (start ≤ p.seq.getD 0))
  | none => if start = 0 then ps else []

/-- What `jread` gives of a position (R157). -/
def State.journalItem (s : State) (p : Position) : JournalItem :=
  if p.status = .damaged then .damaged (p.seq.getD 0)
  else
    let bs := (s.store.memory.listed (positionAddr p.pos) 64).bytes (positionAddr p.pos) 64
    .record (bs.take 5 ++ [p.status.code] ++ bs.drop 6) p.unverified

/-- The items of a `jread` (R157). -/
def State.journalItems (start count : Nat) (s : State) : List JournalItem :=
  (((readFrom start s.journal.unreleased).takeWhile (·.reported)).take count).map s.journalItem

/-- How many of the unreleased positions a release up to `n` takes: up to the last record at or below `n`, and past the
newest record when `n` is at or above the newest number assigned (R158). -/
def releaseCount (n newest : Nat) (ps : List Position) : Nat :=
  if newest ≤ n then ps.length
  else (ps.zipIdx.foldl (fun k q => if q.1.isRecord && decide (q.1.seq.getD 0 ≤ n) then q.2 + 1 else k) 0)

/-- A position that may not be released (R158). -/
def Position.unsettled (p : Position) : Bool := decide (p.status = .intent) || p.unverified || !p.reported

/-- A FILLED sector whose positions are all released becomes WAITING (R155, R158). -/
def Journal.settleSectors (j : Journal) : Journal :=
  { j with sectors := j.sectors.zipIdx.map fun q =>
      if q.1 = .filled ∧ (j.positions.all fun p => p.released || p.pos / 64 != q.2) = true then .waiting else q.1 }

/-- The oldest `k` unreleased positions are released. -/
def releaseOldest : Nat → List Position → List Position
  | _, [] => []
  | 0, ps => ps
  | k + 1, p :: ps => if p.released then p :: releaseOldest (k + 1) ps else { p with released := true } :: releaseOldest k ps

/-- The positions of a sector come back when its erase is done (R155, R159). -/
def Journal.sectorErased (j : Journal) (k : Nat) : Journal :=
  let isNext := decide (j.writePos / 64 = k)
  { j with
    sectors := j.sectors.set k (if isNext then .current else .erased),
    writePos := if isNext then 64 * k else j.writePos,
    positions := j.positions.filter fun p => p.pos / 64 != k,
    eraseWork := .idle }

/-! ## The journal scan (R160 to R162) -/

/-- A non-blank position as the scan finds it, with the status it is settled to. -/
structure Found where
  pos    : Nat
  seq    : Option Nat
  status : RecordStatus
  /-- The mark that the scan programs onto it. -/
  mark   : Option RecordStatus
  deriving DecidableEq, Repr

/-- How the scan settles the bytes of a non-blank position (R160). -/
def settlePosition (pos : Nat) (bs : List Byte) : Found :=
  if recordCheckGood bs then
    let seq := some (field bs 0 4)
    match statusOfCode (bs.getD 5 0) with
    | some .intent => { pos := pos, seq := seq, status := .uncertain, mark := some .uncertain }
    | some .blank => { pos := pos, seq := seq, status := .damaged, mark := some .damaged }
    | some st => { pos := pos, seq := seq, status := st, mark := none }
    | none => { pos := pos, seq := seq, status := .damaged, mark := some .damaged }
  else { pos := pos, seq := none, status := .damaged, mark := some .damaged }

/-- The non-blank positions of the ring, settled, in ring order. -/
def foundPositions (m : Memory) : List Found :=
  (List.range journalSectors).flatMap fun k =>
    let sm := m.listed (positionAddr (64 * k)) 4096
    if sm.isEmpty then []
    else
      (List.range 64).filterMap fun i =>
        let p := 64 * k + i
        if sm.blank (positionAddr p) 64 then none else some (settlePosition p (sm.bytes (positionAddr p) 64))

/-- The position with the highest sequence number among those with a good check: H's position (R161). -/
def highest (fs : List Found) : Option Found :=
  fs.foldl (fun best f =>
    match f.seq, best with
    | none, b => b
    | some _, none => some f
    | some n, some b => if b.seq.getD 0 < n then some f else some b) none

/-- The distance from one position forward to another in ring order. -/
def ringDistance (a b : Nat) : Nat := (b + journalPositions - a) % journalPositions

/-- The positions after one, in ring order. -/
def ringAfter (p : Nat) : List Nat := (List.range (journalPositions - 1)).map fun i => (p + 1 + i) % journalPositions

/-- What the scan makes of the ring. -/
structure JournalScan where
  journal : Journal
  marks   : List ScanOp
  deriving DecidableEq, Repr

/-- The journal scan (R160 to R162), with the floor that step 3 found.  A sector lies between
H's position and the write position when one of the D positions stands in it and it is not H's own (log entry 17); the
sector of the write position does so only when it is blank from there on (log entry 62).  A write position in a WAITING sector is free
only once that sector has been erased, and a ring whose every sector is WAITING has it at the first position (log entry 62).  Log entry 17. -/
def scanJournal (m : Memory) (floor : Nat) : JournalScan :=
  let fs := foundPositions m
  let blankAt := fun p => !fs.any fun f => f.pos == p
  let h := highest fs
  -- the write position and D when a record with a good check exists
  let afterH := match h with | some f => ringAfter f.pos | none => []
  let blankNext := afterH.find? blankAt
  let lost := afterH.takeWhile fun p => fs.any fun f => f.pos == p && f.seq.isNone
  let between := match h with
    | some f =>
      match blankNext with
      | some w => fs.filter fun (g : Found) => decide (0 < ringDistance f.pos g.pos) && decide (ringDistance f.pos g.pos < ringDistance f.pos w)
      | none => fs.filter fun (g : Found) => lost.contains g.pos
    | none => []
  let writeAfter := fun (f : Found) => blankNext.getD ((f.pos + lost.length + 1) % journalPositions)
  let liesBetween := fun k =>
    match h with
    | some f =>
      (between.any fun g => g.pos / 64 == k) && f.pos / 64 != k &&
        !(writeAfter f / 64 == k && fs.any fun g => g.pos / 64 == k && decide (writeAfter f ≤ g.pos))
    | none => false
  let interrupted := fun k =>
    let inK := fs.filter fun f => f.pos / 64 == k
    !inK.isEmpty && inK.all (fun f => decide (f.seq.getD 0 ≤ floor)) && !liesBetween k
  let waiting := (List.range journalSectors).filter interrupted
  let write0 := match h with
    | some f => writeAfter f
    | none =>
      match (List.range journalSectors).find? (fun k =>
          waiting.contains ((k + journalSectors - 1) % journalSectors) && !fs.any fun f => f.pos / 64 == k) with
      | some k => 64 * k
      | none => 0
  let writeSector := write0 / 64
  let write := if waiting.contains writeSector then 64 * writeSector else write0
  let sectors := (List.range journalSectors).map fun k =>
    if waiting.contains k then SectorState.waiting
    else if k = writeSector ∧ blankAt write0 = true then .current
    else if fs.any fun f => f.pos / 64 == k then .filled
    else .erased
  let kept := fs.filter fun f => !waiting.contains (f.pos / 64)
  let ordered := (kept.filter fun f => decide (write ≤ f.pos)) ++ (kept.filter fun f => decide (f.pos < write))
  let top := (h.bind (·.seq)).getD 0
  let d := between.length
  { journal :=
      { Journal.initial with
        nextSeq := max (top + d) floor + 9, newestAssigned := max top floor, newestProgrammed := top, floor := floor,
        sectors := sectors, writePos := write,
        positions := ordered.map fun f =>
          { pos := f.pos, seq := f.seq, status := f.status, reported := true, unverified := false, released := false } },
    marks := fs.filterMap fun f => f.mark.map fun st => .mark f.pos st }

end Sys2Proof.Machine
end

