-- ==== Sys2Proof/Machine/Operands.lean ====
section
/-! DEFINITION. The operand forms: setting identifiers, their ranges and codes (sections 5.7, 6.9 and 11.4), and the pairs
of a `gparm` payload (R203). -/

namespace Sys2Proof.Machine

/-- The value of a setting by its identifier; identifiers 22 to 29 are the bits of the polarity. -/
def Settings.get (v : Settings) : Nat → Nat
  | 1 => v.answerWindow | 2 => v.orientation | 3 => v.sightingAge | 4 => v.honourWindow | 5 => v.recoveryLifetime
  | 6 => v.groupCredits | 7 => v.creditWindow | 8 => v.sensorFilter | 9 => v.passageLimit | 10 => v.stuckLimit
  | 11 => v.closeDelay | 12 => v.startMode | 13 => v.deadtime | 14 => v.brakeInterval | 15 => v.motionLimit
  | 16 => v.slowThreshold | 17 => v.inrushBlanking | 18 => v.obstructionThreshold | 19 => v.obstructionRetries
  | 20 => v.reopenHold | 21 => v.failOpen
  | n => if 22 ≤ n ∧ n ≤ 29 then (if v.polarity.getLsbD (n - 22) then 1 else 0) else 0

/-- The settings with one value replaced by its identifier. -/
def Settings.set (v : Settings) (id x : Nat) : Settings :=
  match id with
  | 1 => { v with answerWindow := x } | 2 => { v with orientation := x } | 3 => { v with sightingAge := x }
  | 4 => { v with honourWindow := x } | 5 => { v with recoveryLifetime := x } | 6 => { v with groupCredits := x }
  | 7 => { v with creditWindow := x } | 8 => { v with sensorFilter := x } | 9 => { v with passageLimit := x }
  | 10 => { v with stuckLimit := x } | 11 => { v with closeDelay := x } | 12 => { v with startMode := x }
  | 13 => { v with deadtime := x } | 14 => { v with brakeInterval := x } | 15 => { v with motionLimit := x }
  | 16 => { v with slowThreshold := x } | 17 => { v with inrushBlanking := x }
  | 18 => { v with obstructionThreshold := x } | 19 => { v with obstructionRetries := x }
  | 20 => { v with reopenHold := x } | 21 => { v with failOpen := x }
  | n =>
    if 22 ≤ n ∧ n ≤ 29 then
      { v with polarity := (v.polarity &&& ~~~(1#8 <<< (n - 22))) ||| (BitVec.ofNat 8 (x % 2) <<< (n - 22)) }
    else v

/-- The greatest code of an enumerated setting (section 11.4), or none for a numeric one. -/
def settingCodes : Nat → Option Nat
  | 2 => some 1 | 12 => some 2 | 21 => some 1
  | n => if 22 ≤ n ∧ n ≤ 29 then some 1 else none

/-- The range of a numeric setting, in the unit its value travels in. -/
def settingRange : Nat → Nat × Nat
  | 1 => (5, 50) | 3 => (10, 1440) | 4 => (10, 120) | 5 => (1, 120) | 6 => (1, 4) | 7 => (2, 30) | 8 => (2, 50)
  | 9 => (2, 60) | 10 => (10, 600) | 11 => (200, 5000) | 13 => (1, 16) | 14 => (10, 200) | 15 => (300, 5000)
  | 16 => (200, 5000) | 17 => (50, 500) | 18 => (100, 5000) | 19 => (1, 7) | 20 => (500, 5000)
  | _ => (0, 4294967295)

/-- A value moved to the nearer bound of its setting's range (R203). -/
def clampSetting (id x : Nat) : Nat :=
  let r := settingRange id
  if x < r.1 then r.1 else if r.2 < x then r.2 else x

/-- The identifiers that `gparm` accepts (R203). -/
def knownSetting (id : Nat) : Bool := decide (1 ≤ id) && decide (id ≤ 29)

/-- The identifiers of the output polarity (R111). -/
def polaritySetting (id : Nat) : Bool := decide (22 ≤ id) && decide (id ≤ 29)

/-- The identifiers whose value goes into force when the request is taken (section 11.4).  That the values of 1, 3 and 4 are in
force, and not pending, before the next exchange, search or WRITE is log entry 64. -/
def immediateSetting (id : Nat) : Bool := decide (1 ≤ id) && decide (id ≤ 5)

/-- The pairs of a `gparm` payload, or none when it is not a whole number of pairs (R203). -/
def settingPairs : List Byte → Option (List (Nat × Nat))
  | [] => some []
  | i :: a :: b :: c :: d :: rest =>
    (settingPairs rest).map fun ps =>
      (i.toNat, a.toNat + 256 * b.toNat + 65536 * c.toNat + 16777216 * d.toNat) :: ps
  | _ => none

/-- The gate mode of a start mode code (section 11.4). -/
def startModeOf : Nat → GateMode
  | 0 => .normal | 1 => .manual | _ => .outOfService

end Sys2Proof.Machine
end

