-- ==== Sys2Proof/Machine/Aisle.lean ====
section
/-! DEFINITION. The Aisle Controller: the claim, the credit queue, the window timer, the leaf target, the filters and the
passage tracker (chapter 5). -/

namespace Sys2Proof.Machine

/-! ## Directions -/

/-- The other direction. -/
def otherWay : Direction → Direction
  | .inbound => .outbound
  | .outbound => .inbound

/-- The reader at which a direction begins: U for INBOUND, P for OUTBOUND (R1, R95). -/
def readerOf : Direction → Reader
  | .inbound => .U
  | .outbound => .P

/-- The direction that a reader serves (R1). -/
def directionOfReader : Reader → Direction
  | .U => .inbound
  | .P => .outbound

/-- The aisle direction excludes a direction (R89). -/
def excludes : AisleDirection → Direction → Bool
  | .entryOnly, .outbound => true
  | .exitOnly, .inbound => true
  | _, _ => false

/-- The direction of a phase; CLEAR has none (R98). -/
def TrackPhase.direction : TrackPhase → Option Direction
  | .clear => none
  | .inA | .inAB | .inB => some .inbound
  | .outB | .outBA | .outA => some .outbound

/-! ## The target (R104) -/

/-- An ACTIVE credit (R92). -/
def Credit.isActive (c : Credit) : Bool := decide (c.state = .active)

/-- The queue holds an ACTIVE credit. -/
def Aisle.anyActive (a : Aisle) : Bool := a.credits.any Credit.isActive

/-- The target of R104.  `fresh` says that the mode has just become NORMAL. -/
def Aisle.wanted (a : Aisle) (fresh : Bool) : Target :=
  match a.mode with
  | .normal =>
    if a.anyActive || a.closeDelay.isSome then .open
    else if !a.beamS.line.level then .closed
    else if fresh then .open
    else a.target
  | .manual => a.target
  | .emergency => .open
  | .outOfService => .closed

/-- The target is taken afresh and handed to the leaves (R104, R105). -/
def State.retarget (fresh : Bool) (s : State) : State :=
  ({ s with aisle := { s.aisle with target := s.aisle.wanted fresh } }).handTarget

/-! ## The window timer (R94) -/

/-- The oldest ACTIVE credit. -/
def Aisle.oldestActive (a : Aisle) : Option Credit := a.credits.find? Credit.isActive

/-- The window of the oldest ACTIVE credit is loaded: it runs, or holds at once while a passage in its direction is in
progress; with no ACTIVE credit the timer stops. -/
def State.loadWindow (s : State) : State :=
  let w := 1000000 * s.settings.inForce.creditWindow
  let t : WindowTimer :=
    match s.aisle.oldestActive with
    | none => .stopped
    | some c => if s.aisle.phase.direction = some c.direction then .held w else .running (s.now + w)
  { s with aisle := { s.aisle with window := t } }

/-- The timer holds while the tracker is in a phase of the timed credit's direction, and resumes when it leaves them. -/
def State.syncWindow (s : State) : State :=
  let inWay := s.aisle.phase.direction.isSome && s.aisle.phase.direction == s.aisle.oldestActive.map (·.direction)
  let t : WindowTimer :=
    match s.aisle.window, inWay with
    | .running d, true => .held (d - s.now)
    | .held r, false => .running (s.now + r)
    | w, _ => w
  { s with aisle := { s.aisle with window := t } }

/-! ## The claim and the credits (R90 to R95) -/

/-- The claim is released when the queue is empty and the tracker is CLEAR (R90). -/
def Aisle.settleClaim (a : Aisle) : Aisle :=
  if a.credits.isEmpty && decide (a.phase = .clear) then { a with claim := none } else a

/-- What the arbiter answers (R91). -/
inductive ClaimResult where
  | granted | queueFull | heldOpposite
  deriving DecidableEq, Repr

/-- The arbiter's decision (R91). -/
def State.askClaim (s : State) (d : Direction) : ClaimResult :=
  match s.aisle.claim with
  | none => .granted
  | some c =>
    if c = d then (if s.aisle.credits.length < s.settings.inForce.groupCredits then .granted else .queueFull)
    else .heldOpposite

/-- The close delay stops because a credit became ACTIVE, and the window is loaded when the credit is now the oldest
ACTIVE one (R94, R104). -/
def State.afterActivation (becameOldest : Bool) (s : State) : State :=
  let t := { s with aisle := { s.aisle with closeDelay := none } }
  (if becameOldest then t.loadWindow else t).retarget false

/-- A granted request adds a credit at the newest end and holds the claim (R91, R92). -/
def State.addCredit (c : Credit) (s : State) : State :=
  let first := !s.aisle.anyActive
  let t := { s with aisle := { s.aisle with credits := s.aisle.credits ++ [c], claim := some c.direction } }
  if c.state = .active then t.afterActivation first else t

/-- A RESERVED credit of a reader's session (R92). -/
def Credit.reservedBy (r : Reader) (c : Credit) : Bool := decide (c.state = .reserved) && decide (c.reader = some r)

/-- The session holds a RESERVED credit. -/
def Aisle.reserved (a : Aisle) (r : Reader) : Bool := a.credits.any (Credit.reservedBy r)

/-- The first credit that meets a test is replaced. -/
def mapFirst {α : Type} (p : α → Bool) (f : α → α) : List α → List α
  | [] => []
  | c :: cs => if p c then f c :: cs else c :: mapFirst p f cs

/-- The first credit that meets a test is removed. -/
def dropFirst {α : Type} (p : α → Bool) : List α → List α
  | [] => []
  | c :: cs => if p c then cs else c :: dropFirst p cs

/-- The session's RESERVED credit takes its intent's sequence number (R93). -/
def State.numberCredit (r : Reader) (seq : Nat) (s : State) : State :=
  { s with aisle := { s.aisle with
      credits := mapFirst (Credit.reservedBy r) (fun c => { c with seq := some seq }) s.aisle.credits } }

/-- The session's write is COMPLETE: its RESERVED credit becomes ACTIVE (R93, R94). -/
def State.activateCredit (r : Reader) (s : State) : State :=
  let ahead := s.aisle.credits.takeWhile fun c => !c.reservedBy r
  let becameOldest := !(ahead.any Credit.isActive)
  let t := { s with aisle := { s.aisle with
      credits := mapFirst (Credit.reservedBy r) (fun c => { c with state := .active }) s.aisle.credits } }
  if s.aisle.reserved r then t.afterActivation becameOldest else s

/-- The session's RESERVED credit is removed, with no record (R93). -/
def State.removeCredit (r : Reader) (s : State) : State :=
  { s with aisle := ({ s.aisle with credits := dropFirst (Credit.reservedBy r) s.aisle.credits }).settleClaim }

/-- The close delay starts when no ACTIVE credit remains after a consumption, an expiry or a removal (R104). -/
def State.startCloseDelay (s : State) : State :=
  if s.aisle.anyActive then s
  else { s with aisle := { s.aisle with closeDelay := some (s.now + 1000 * s.settings.inForce.closeDelay) } }

/-- An UNUSED record (R95): the reason, the sequence number it references, the reader of the credit's direction. -/
def State.unusedRecord (reason : Nat) (d : Direction) (seq : Option Nat) (s : State) : JournalRecord :=
  { s.draftRecord .unused (readerOf d) reason with referenced := some (seq.getD 0) }

/-- The oldest ACTIVE credit leaves the queue; the window is loaded for the next (R94, R95, R100). -/
def State.dropOldestActive (s : State) : State :=
  ({ s with aisle := { s.aisle with
      credits := dropFirst Credit.isActive s.aisle.credits } }).loadWindow

/-- The window timer has run out (R95). -/
def State.expireCredit (c : Credit) (s : State) : State :=
  let t := s.dropOldestActive
  let u := if c.source = .card then t.offerRecord (t.unusedRecord reasonExpired c.direction c.seq) else t
  (({ u with aisle := u.aisle.settleClaim }).startCloseDelay).retarget false

/-! ## Filters (R97) -/

/-- A change of a raw level: the filter's measure restarts, or stops when the level is the one taken (R97). -/
def Filtered.rawChange (f : Filtered) (now filter : Nat) (level runs : Bool) : Filtered :=
  if f.raw = level then f
  else { f with raw := level, timer := if runs && level != f.level then some (now + 1000 * filter) else none }

/-- A filter starts: the state starts inactive, and a raw level that is active then is measured from now (R85, R97,
R113). -/
def Filtered.start (f : Filtered) (now filter : Nat) : Filtered :=
  { f with level := false, timer := if f.raw then some (now + 1000 * filter) else none }

/-- The new level has held for the filter time (R97). -/
def Filtered.take (f : Filtered) : Filtered := { f with level := f.raw, timer := none }

/-- A beam of the aisle, and the aisle with it replaced. -/
def Aisle.beam (a : Aisle) : Beam → BeamState
  | .A => a.beamA
  | .S => a.beamS
  | .B => a.beamB
def Aisle.setBeam (a : Aisle) (b : Beam) (x : BeamState) : Aisle :=
  match b with
  | .A => { a with beamA := x }
  | .S => { a with beamS := x }
  | .B => { a with beamB := x }

/-! ## Stuck beams (R103) -/

/-- A beam's measure starts again at a filtered change of another beam (R103). -/
def BeamState.otherChanged (x : BeamState) (now limit : Nat) : BeamState :=
  if x.line.level && !x.stuck then { x with measure := some (now + 1000000 * limit) } else x

/-- A beam takes its new level: a block starts its measure, a clear ends its stuck state (R103). -/
def BeamState.changed (x : BeamState) (now limit : Nat) : BeamState :=
  { line := x.line.take, stuck := if x.line.raw then x.stuck else false,
    measure := if x.line.raw then some (now + 1000000 * limit) else none }

/-- A filtered change of one beam, as the three beams take it (R97, R103). -/
def Aisle.takeBeam (a : Aisle) (b : Beam) (now limit : Nat) : Aisle :=
  { a with
    beamA := if b = .A then a.beamA.changed now limit else a.beamA.otherChanged now limit,
    beamS := if b = .S then a.beamS.changed now limit else a.beamS.otherChanged now limit,
    beamB := if b = .B then a.beamB.changed now limit else a.beamB.otherChanged now limit }

/-! ## The passage tracker (R98 to R102) -/

/-- The effect column of R98's table. -/
inductive TrackEffect where
  | start | backout | step | leadPast | retreat | handover | completion | follower
  deriving DecidableEq, Repr

/-- The inbound rows of R98: the beam at which the direction begins, whether it is blocked, and the phase and flag. -/
def trackInbound (phase : TrackPhase) (flag first blocked : Bool) : Option (TrackPhase × Bool × TrackEffect) :=
  match phase, first, blocked with
  | .clear, true, true => some (.inA, false, .start)
  | .inA, true, false => some (.clear, false, .backout)
  | .inA, false, true => some (.inAB, flag, .step)
  | .inAB, true, false => some (.inB, true, .leadPast)
  | .inAB, false, false => if flag then some (.inA, false, .handover) else some (.inA, flag, .retreat)
  | .inB, false, false => some (.clear, false, .completion)
  | .inB, true, true => some (.inAB, flag, .follower)
  | _, _, _ => none

/-- A phase with the two directions exchanged (R98: the outbound transitions are the mirror). -/
def TrackPhase.mirror : TrackPhase → TrackPhase
  | .clear => .clear
  | .inA => .outB | .inAB => .outBA | .inB => .outA
  | .outB => .inA | .outBA => .inAB | .outA => .inB

/-- R98's table: the row for a filtered change of beam A (`isA`) or B, with the direction of the passage. -/
def trackRow (phase : TrackPhase) (flag isA blocked : Bool) : Option (TrackPhase × Bool × TrackEffect × Direction) :=
  let way := match phase.direction with
    | some d => d
    | none => if isA then .inbound else .outbound
  match way with
  | .inbound => (trackInbound phase flag isA blocked).map fun r => (r.1, r.2.1, r.2.2, .inbound)
  | .outbound => (trackInbound phase.mirror flag (!isA) blocked).map fun r => (r.1.mirror, r.2.1, r.2.2, .outbound)

/-- The measure of the current lead's age from its start time (R102). -/
def State.measureLead (start : Option Nat) (s : State) : State :=
  { s with aisle := { s.aisle with
      leadStart := start, passageLimit := start.map fun t => t + 1000000 * s.settings.inForce.passageLimit } }

/-- A follower becomes the lead with its own start time; LOITER is raised at once when its age exceeds the limit
already (R102). -/
def State.handOver (s : State) : State :=
  let t := s.measureLead s.aisle.followerStart
  let u := { t with aisle := { t.aisle with followerStart := none } }
  match u.aisle.passageLimit with
  | some d => if d < u.now then ({ u with aisle := { u.aisle with passageLimit := none } }).raise .loiter else u
  | none => u

/-- The tracker is CLEAR again: no start time is held (R98, R102). -/
def State.endPassage (s : State) : State :=
  { s with aisle := { s.aisle with leadStart := none, followerStart := none, passageLimit := none } }

/-- TAILGATE when a follower enters with fewer than two ACTIVE credits of the passage's direction (R99). -/
def State.testTailgate (d : Direction) (s : State) : State :=
  let n := s.aisle.credits.countP fun c => c.isActive && decide (c.direction = d)
  s.raiseIf (decide (n < 2) && (decide (s.aisle.mode = .normal) || decide (s.aisle.mode = .outOfService))) .tailgate

/-- A passage count rises by one, modulo 4,294,967,296 (R101). -/
def countUp (n : Nat) : Nat := (n + 1) % 4294967296

/-- The occlusion time of a passage in ms, held at 65,535 (R101).  That the fraction of a millisecond is dropped is log
entry 46. -/
def occlusion (now : Nat) (start : Option Nat) : Nat := min ((now - start.getD now) / 1000) 65535

/-- A completion without a credit, in the mode in force (R100). -/
def State.evade (d : Direction) (s : State) : State :=
  if s.aisle.mode = .normal ∨ s.aisle.mode = .outOfService then
    let wrong := excludes s.aisle.direction d || decide (s.aisle.claim = some (otherWay d))
    (s.offerRecord (s.draftRecord .evasion (readerOf (otherWay d)) (if wrong then reasonWrongWay else reasonNoCredit))).raise
      (if wrong then .wrongWay else .evasion)
  else s

/-- A completion (R100, R101), with the start time of the passage that completed.  The tracker stands in its new phase. -/
def State.completePassage (d : Direction) (start : Option Nat) (s : State) : State :=
  let credit := s.aisle.credits.find? fun (c : Credit) => c.isActive && decide (c.direction = d)
  let t : State := if credit.isSome then s.dropOldestActive.startCloseDelay else s.evade d
  let a : Aisle := t.aisle
  let u : State := { t with aisle := { a with
      inboundCount := if d = .inbound then countUp a.inboundCount else a.inboundCount,
      outboundCount := if d = .outbound then countUp a.outboundCount else a.outboundCount,
      unpaidCount := if credit.isSome then a.unpaidCount else countUp a.unpaidCount } }
  u.notify npasBit (.npas d (credit.map (·.source)) (credit.bind (·.seq)) (occlusion s.now start))

/-- The effect of a row of R98. -/
def State.trackEffect (e : TrackEffect) (d : Direction) (s : State) : State :=
  match e with
  | .start =>
    let claim := match s.aisle.claim with | none => some d | c => c
    ({ s with aisle := { s.aisle with claim := claim } }).measureLead (some s.now)
  | .backout => s.endPassage
  | .step | .retreat => s
  | .leadPast => { s with aisle := { s.aisle with followerStart := none } }
  | .follower => ({ s with aisle := { s.aisle with followerStart := some s.now } }).testTailgate d
  | .handover => (s.completePassage d s.aisle.leadStart).handOver
  | .completion => (s.completePassage d s.aisle.leadStart).endPassage

/-- A filtered change of beam A or B (R98): the tracker moves, then the row's effect, the claim and the target. -/
def State.track (isA blocked : Bool) (s : State) : State :=
  match trackRow s.aisle.phase s.aisle.leadPast isA blocked with
  | none => s
  | some (phase, flag, effect, d) =>
    let t := ({ s with aisle := { s.aisle with phase := phase, leadPast := flag } }).trackEffect effect d
    let u := t.syncWindow
    ({ u with aisle := u.aisle.settleClaim }).retarget false

/-- S becomes blocked or clear for the leaves and the target (R104, R115, R117, R123).  Log entry 42. -/
def State.safetyBeam (blocked : Bool) (s : State) : State :=
  if blocked then (s.moveLeaves fun v l => (l.onBlocked v).quiet).retarget false
  else (s.retarget false).moveLeaves fun v l => l.onCondition v

/-! ## The settings hold (R106, R107, R111) -/

/-- The hold's conditions: the tracker is CLEAR and neither leaf moves (R106). -/
def State.holdMet (s : State) : Bool :=
  decide (s.aisle.phase = .clear) && !s.drive.left.moving && !s.drive.right.moving

/-- A pending setting may take effect now (R88, R106, R107, R111). -/
def State.mayTakeEffect (s : State) (id : Nat) : Bool :=
  s.holdMet && decide (id ≠ 12) &&
  (!decide (id = 6) || decide (s.aisle.credits.length ≤ s.settings.stored.groupCredits)) &&
  (!polaritySetting id || (decide (s.drive.left.state = .free) && decide (s.drive.right.state = .free)))

end Sys2Proof.Machine
end

