-- ==== Sys2Proof/Machine/Screening.lean ====
section
/-! DEFINITION. The Card Check Unit and the Recovery List: lists, keys, the card digest, detections, the sighting table,
and the settlement of a torn write (chapters 2 and 4). -/

namespace Sys2Proof.Machine

/-! ## The deny list and the key slots (R26, R29, R30) -/

/-- The deny list's entry for a number (R26). -/
def Check.denied (c : Check) (number : Nat) : Option DenyEntry := c.denyList.find? fun e => e.number == number

/-- The hot list's entry for a number (R32). -/
def Check.hot (c : Check) (number : Nat) : Option HotEntry := c.hotList.find? fun e => e.number == number

/-- The key slot that holds a version (R29). -/
def Check.keyFor (c : Check) (version : Nat) : Option KeySlot :=
  [c.key0, c.key1].findSome? fun k =>
    match k with
    | some slot => if slot.version = version then some slot else none
    | none => none

/-- The expected response (R30); a 16-byte message's byte 0 is the low byte of its number.  Log entry 1. -/
def expectedResponse (key : BitVec 128) (card : CardId) (challenge : BitVec 64) : BitVec 64 :=
  let cardKey := Config.cardDigest key (BitVec.ofNat 128 card.number)
  let message := challenge.toNat + 2 ^ 64 * (card.counter % 65536) + 2 ^ 80 * (card.number % 2 ^ 48)
  Config.cardDigest (Config.widenCardKey cardKey) (BitVec.ofNat 128 message)

/-- The first of the values c, c + 1, … that is not among those used; `n` bounds the search by the list's length. -/
def unusedFrom (used : List (BitVec 64)) : Nat → BitVec 64 → BitVec 64
  | 0, c => c
  | n + 1, c => if used.contains c then unusedFrom used n (c + 1) else c

/-- A fresh challenge, equal to none of the session's (R12, R30; log entry 2). -/
def State.drawChallenge (s : State) (used : List (BitVec 64)) : BitVec 64 :=
  unusedFrom used used.length (Config.freeChallenge s.free)

/-! ## The hot list (R32 to R35) -/

/-- Presentations-since rises by one, held at 65,535 (R32, R33, R35). -/
def Check.countHot (c : Check) (number : Nat) : Check :=
  { c with hotList := c.hotList.map fun e => if e.number = number then { e with since := bump e.since 65535 } else e }

/-- The first entry whose number is in the deny list leaves, or else the oldest (R34). -/
def Check.makeRoom (c : Check) : Check :=
  match c.hotList.find? fun e => (c.denied e.number).isSome with
  | some e => { c with hotList := c.hotList.filter fun x => x.number != e.number }
  | none => { c with hotList := c.hotList.tail }

/-- Making room displaces a number that the deny list does not hold (R34). -/
def Check.overflows (c : Check) : Bool :=
  decide (64 ≤ c.hotList.length) && !(c.hotList.any fun e => (c.denied e.number).isSome)

/-- A new entry at the newest end (R33). -/
def Check.addHot (c : Check) (number : Nat) (k : Criterion) (minute : Nat) : Check :=
  let room := if 64 ≤ c.hotList.length then c.makeRoom else c
  { room with hotList := room.hotList ++ [{ number := number, criterion := k, minute := minute, since := 0 }] }

/-- A detection (R33, R34), with the event of its source. -/
def State.detect (number : Nat) (k : Criterion) (event : EventKind) (s : State) : State :=
  let t :=
    if (s.check.hot number).isSome then { s with check := s.check.countHot number }
    else
      (({ s with check := s.check.addHot number k s.minute }).raiseIf s.check.overflows .hotlistFull).queueRewrite
  t.raise event

/-! ## The sighting table (R40 to R43) -/

/-- The age of a seen-at; a negative age counts as 0 (R41). -/
def State.ageOf (s : State) (seenAt : Nat) : Nat := s.clock.seconds - seenAt

/-- An age beyond the sighting age limit (R41). -/
def State.aged (s : State) (seenAt : Nat) : Bool := decide (60 * s.settings.inForce.sightingAge < s.ageOf seenAt)

/-- The table's entry for a number. -/
def Check.sighting (c : Check) (number : Nat) : Option Sighting := c.sightings.find? fun e => e.number == number

/-- A search removes an aged entry that it meets (R41). -/
def State.search (number : Nat) (s : State) : State :=
  match s.check.sighting number with
  | some e =>
    if s.aged e.seenAt then
      { s with check := { s.check with sightings := s.check.sightings.filter fun x => x.number != number } }
    else s
  | none => s

/-- An entry at the place its seen-at gives it, behind those of equal seen-at (R40). -/
def placeSighting (e : Sighting) : List Sighting → List Sighting
  | [] => [e]
  | x :: xs => if e.seenAt < x.seenAt then e :: x :: xs else x :: placeSighting e xs

/-- An insertion; a table of 512 entries first loses its first (R42). -/
def insertSighting (e : Sighting) (xs : List Sighting) : List Sighting :=
  placeSighting e (if 512 ≤ xs.length then xs.tail else xs)

/-- An entry changes; it moves to its new place when its seen-at changes (R40). -/
def changeSighting (e : Sighting) (xs : List Sighting) : List Sighting :=
  match xs.find? fun x => x.number == e.number with
  | some x =>
    if x.seenAt = e.seenAt then xs.map fun y => if y.number = e.number then e else y
    else placeSighting e (xs.filter fun y => y.number != e.number)
  | none => xs

/-- The sighting table replaced. -/
def State.setSightings (xs : List Sighting) (s : State) : State := { s with check := { s.check with sightings := xs } }

/-- A local sighting (R43): the table's action, then the `nsig` notice. -/
def State.localSighting (number counter : Nat) (stamp : Stamp) (d : Direction) (s : State) : State :=
  let t := s.search number
  let new : Sighting :=
    { number := number, counter := counter, stamp := stamp, direction := d, seenAt := s.clock.seconds, source := .localGate }
  let u :=
    match t.check.sighting number with
    | none => t.setSightings (insertSighting new t.check.sightings)
    | some e =>
      if e.counter < counter then t.setSightings (changeSighting new t.check.sightings)
      else if e.counter = counter then
        if e.stamp = stamp then
          t.setSightings (changeSighting { e with seenAt := s.clock.seconds, source := .localGate } t.check.sightings)
        else t.detect number .diverged .cloneLate
      else t
  u.notify nsigBit (.nsig number counter stamp d s.clock.seconds)

/-- What screening finds after the search (R45). -/
def screen (entry : Option Sighting) (counter : Nat) (writer : Stamp) : Option Criterion :=
  match entry with
  | none => none
  | some e =>
    if e.counter < counter then none
    else if e.counter = counter then (if e.stamp = writer then none else some .diverged)
    else some .regression

/-- A peer sighting applied (R48): the case taken. -/
def State.peerCase (p : PeerSighting) (s : State) : SightingResult :=
  let stamp : Stamp := { station := p.station, gate := p.gate, minute := p.minute }
  let own := match s.station.identity with
    | some i => i.station == p.station && i.gate == p.gate
    | none => false
  if own then .own
  else if s.aged p.seenAt then .aged
  else
    match (s.search p.number).check.sighting p.number with
    | none => .inserted
    | some e =>
      if e.counter < p.counter then .replaced
      else if e.counter = p.counter then (if e.stamp = stamp then .refreshed else .diverged)
      else .older

/-- What the case does (R48). -/
def State.applyPeer (p : PeerSighting) (d : Direction) (s : State) : State :=
  let stamp : Stamp := { station := p.station, gate := p.gate, minute := p.minute }
  let new : Sighting :=
    { number := p.number, counter := p.counter, stamp := stamp, direction := d, seenAt := p.seenAt, source := .peer }
  let t := s.search p.number
  match s.peerCase p with
  | .own | .aged => s
  | .inserted => t.setSightings (insertSighting new t.check.sightings)
  | .replaced => t.setSightings (changeSighting new t.check.sightings)
  | .refreshed =>
    match t.check.sighting p.number with
    | some e => t.setSightings (changeSighting { e with seenAt := max e.seenAt p.seenAt } t.check.sightings)
    | none => t
  | .diverged => t.detect p.number .diverged .cloneLate
  | .older => t

/-! ## The Recovery List (R74 to R77, R79) -/

/-- An entry enters the list (R76). -/
def enterRecovery (e : RecoveryEntry) (xs : List RecoveryEntry) : List RecoveryEntry :=
  let room :=
    if xs.any fun x => x.number == e.number then xs.filter fun x => x.number != e.number
    else if 16 ≤ xs.length then xs.tail else xs
  room ++ [e]

/-- An entry's age does not exceed the recovery lifetime; a negative age counts as 0 (R77). -/
def State.withinLifetime (s : State) (e : RecoveryEntry) : Bool :=
  decide (s.minute - e.minute ≤ s.settings.inForce.recoveryLifetime)

/-- A staging entry keeps the Recovery List entry held with its mark while the test holds. -/
def StagingEntry.testHeld (p : RecoveryEntry → Bool) : StagingEntry → StagingEntry
  | .mark pos st prepared => .mark pos st (prepared.filter p)
  | .record rec pos owner => .record rec pos owner
  | .damagedMark pos => .damagedMark pos

/-- The entries held with the marks of the staging queue stay while the test holds. -/
def Journal.testHeld (p : RecoveryEntry → Bool) (j : Journal) : Journal :=
  { j with staging := j.staging.map (·.testHeld p) }

/-- The lifetime test of every entry, those in the list and those held with a mark (R77).  Log entry 63. -/
def State.testLifetimes (s : State) : State :=
  { s with recovery := s.recovery.filter s.withinLifetime,
           journal := s.journal.testHeld s.withinLifetime }

/-- The entries of records that an erase removes leave the list (R77). -/
def State.forgetErased (seqs : List Nat) (s : State) : State :=
  { s with recovery := s.recovery.filter fun e => !seqs.contains e.seq }

/-- The settlement of an entry by the card's counter and writer stamp (R79). -/
def settlementOf (e : RecoveryEntry) (counter : Nat) (writer : Stamp) : Settlement :=
  if counter = e.after ∧ writer = e.stamp then .done else if counter = e.before then .void else .superseded

/-- The list's entry for a number. -/
def State.recoveryFor (s : State) (number : Nat) : Option RecoveryEntry := s.recovery.find? fun e => e.number == number

/-- An entry is removed. -/
def State.dropRecovery (number : Nat) (s : State) : State :=
  { s with recovery := s.recovery.filter fun e => e.number != number }

end Sys2Proof.Machine
end

