-- ==== Sys2Proof/Machine/Sessions.lean ====
section
/-! DEFINITION. The Card Link Unit's sessions (chapter 1): readers, exchanges, the decision and claim, the intent, the write
and its ends, and interruption. -/

namespace Sys2Proof.Machine

/-! ## Readers and links (R1, R2) -/

/-- The other reader. -/
def otherReader : Reader → Reader
  | .U => .P
  | .P => .U

/-- The reader at a link under the orientation in force: orientation 0 makes link 0 reader U (R1).  Log entry 6. -/
def State.readerAt (s : State) (l : Link) : Reader :=
  if s.settings.inForce.orientation = 0 ↔ l = .zero then .U else .P

/-- The link of a reader. -/
def State.linkOf (s : State) (r : Reader) : Link :=
  if s.settings.inForce.orientation = 0 ↔ r = .U then .zero else .one

/-- A reader's session, and the unit with it replaced. -/
def Cards.session (c : Cards) : Reader → Session
  | .U => c.sessionU
  | .P => c.sessionP
def Cards.setSession (c : Cards) (r : Reader) (x : Session) : Cards :=
  match r with
  | .U => { c with sessionU := x }
  | .P => { c with sessionP := x }

/-- A link's presence condition, and the unit with it replaced. -/
def Cards.presence (c : Cards) : Link → Presence
  | .zero => c.presence0
  | .one => c.presence1
def Cards.setPresence (c : Cards) (l : Link) (p : Presence) : Cards :=
  match l with
  | .zero => { c with presence0 := p }
  | .one => { c with presence1 := p }

/-- A link's entry of the cards-in-session set, and the unit with it replaced. -/
def Cards.inSession (c : Cards) : Link → Option Nat
  | .zero => c.inSession0
  | .one => c.inSession1
def Cards.setInSession (c : Cards) (l : Link) (n : Option Nat) : Cards :=
  match l with
  | .zero => { c with inSession0 := n }
  | .one => { c with inSession1 := n }

/-- A reader's session, and a change of it. -/
def State.session (s : State) (r : Reader) : Session := s.cards.session r
def State.onSession (r : Reader) (f : Session → Session) (s : State) : State :=
  { s with cards := s.cards.setSession r (f (s.cards.session r)) }

/-- A reader is CLOSED while one of these holds (R7). -/
def State.readerShut (s : State) (r : Reader) : Bool :=
  decide (s.aisle.mode = .outOfService) || excludes s.aisle.direction (directionOfReader r) ||
  s.station.identity.isNone || s.fare.isNone || !s.clock.valid || decide (s.phase ≠ .running)

/-- CLOSED and READY follow R7. -/
def Session.follow (x : Session) (shut : Bool) : Session :=
  match x.state, shut with
  | .ready, true => { x with state := .closed }
  | .closed, false => { x with state := .ready }
  | _, _ => x

/-- Both readers follow R7. -/
def State.followReaders (s : State) : State :=
  (s.onSession .U fun x => x.follow (s.readerShut .U)).onSession .P fun x => x.follow (s.readerShut .P)

/-- A READY reader is paused (R8).  In EMERGENCY the last three conditions do not pause reader P (log entry 23 for U). -/
def State.paused (s : State) (r : Reader) : Bool :=
  let way := directionOfReader r
  decide (s.journal.freeEntries < 2) || s.journal.full || s.supplyWarning ||
  (!(decide (s.aisle.mode = .emergency) && decide (r = .P)) &&
    (s.drive.left.faulted || s.drive.right.faulted ||
     (decide (s.settings.inForce.groupCredits ≤ s.aisle.credits.length) && decide (s.aisle.claim = some way)) ||
     decide (s.aisle.claim = some (otherWay way))))

/-- The session is in its decision interval: admitted, and its outcome not fixed (R6).  It is then in AWAIT_INTENT, WRITING
or QUERYING. -/
def Session.deciding (x : Session) : Bool :=
  match x.state with
  | .awaitIntent | .writing | .querying => x.decision.isSome && x.outcome.isNone
  | _ => false

/-- A session boundary (R6). -/
def State.atBoundary (s : State) : Bool := !(s.session .U).deciding && !(s.session .P).deciding

/-! ## The fare table's falling due, and its activation (R185, R186) -/

/-- The effective fare minute of a staged image (section 10.1). -/
def Staged.effective (x : Staged) : Nat := field x.image 4 4

/-- The staged table is ARMED. -/
def Staged.isArmed : Staged → Bool
  | .armed _ => true
  | .empty | .arming _ => false

/-- The conditions under which an ARMED table falls due (R185). -/
def State.fareDue (s : State) : Bool :=
  s.loader.staged.isArmed && s.clock.valid && decide (s.loader.staged.effective ≤ s.minute) && s.atBoundary

/-- The activation of the ARMED table (R186).  The arbiter starts the mark job at the end of the step. -/
def State.activateFare (s : State) : State :=
  let l := s.loader
  let table := tableOf l.staged.image
  let t := { s with fare := some table,
                    loader := { l with staged := .empty, activeBank := some l.stagingBank,
                                       stagingBank := l.stagingBank.other, markPending := true } }
  let u := (t.raise .tableActivated).queueJob (.fareMark l.stagingBank table.version)
  if s.fare.isNone then u.followReaders else u

/-- The test of R185, made in service at each of its moments: a table that falls due is activated in the same step (R186). -/
def State.testDue (s : State) : State :=
  if s.phase = .running ∧ s.fareDue = true then s.activateFare else s

/-! ## The indicator (R9, R21, R22) -/

/-- The outcomes that show GO, and those of the others that show SEE_STAFF (R22). -/
def CardOutcome.admitted : CardOutcome → Bool
  | .admittedEntry | .admittedExit | .honoured | .emergencyExit => true
  | _ => false
def CardOutcome.refusalShown : CardOutcome → Indicator
  | .noEntry | .cardBlocked | .cardExhausted | .keyUnknown | .denyListed | .cloneListed | .cloneDetected
  | .counterfeit | .cardDataError | .torn => .seeStaff
  | _ => .stop

/-- What the display time of an outcome shows (R21, R22).  That SEE_STAFF for a withheld credit follows the mode in force while
the outcome shows is log entry 55. -/
def State.outcomeShown (s : State) (x : Session) : Option Indicator :=
  if x.display.isSome then
    x.outcome.map fun o =>
      if o.admitted then (if x.withheld && decide (s.aisle.mode = .outOfService) then .seeStaff else .go)
      else o.refusalShown
  else none

/-- What the outcome of a reader's session shows: in HOLDOFF, during its display time. -/
def State.shownNow (s : State) (r : Reader) : Option Indicator :=
  if (s.session r).state = .holdoff then s.outcomeShown (s.session r) else none

/-- The indicator code of a reader (R21).  That a STOP that is due shows before a SEE_STAFF is log entry 44; that the code
is a function of the state is log entry 26. -/
def State.indicator (s : State) (r : Reader) : Indicator :=
  let x := s.session r
  let shown := s.shownNow r
  let busy := match x.state with
    | .identifying | .authenticating | .reading | .awaitIntent | .writing | .querying => true
    | .closed | .ready | .holdoff => false
  if x.state = .closed then .closed
  else if shown = some .stop ∨ x.collision.isSome = true then .stop
  else if shown = some .seeStaff then .seeStaff
  else if busy then .busy
  else if shown = some .go ∨
      (s.aisle.credits.any fun c => c.isActive && decide (c.reader = some r) && decide (c.source = .card)) = true then .go
  else if x.state = .ready ∧ s.paused r = true then .wait
  else .ready

/-- The code that a reader's front-end is sent, with the reason MULTIPLE_CARDS of a STOP that only a COLLISION shows (R9,
R21).  Log entry 44. -/
def State.indication (s : State) (r : Reader) : Indication :=
  { code := s.indicator r,
    reason := if s.indicator r = .stop ∧ s.shownNow r ≠ some .stop then some .multipleCards else none }

/-! ## Exchanges (R3) -/

/-- The 520 sends an exchange, and its answer window starts (R3). -/
def State.send (r : Reader) (e : Exchange) (s : State) : State :=
  s.onSession r fun x =>
    { x with exchange := some e, answerWindow := some (s.now + 1000 * s.settings.inForce.answerWindow) }

/-- AUTHENTICATE with a fresh challenge (R12). -/
def State.sendAuthenticate (r : Reader) (s : State) : State :=
  let c := s.drawChallenge (s.session r).challenges
  let t := s.onSession r fun x => { x with state := .authenticating, challenges := x.challenges ++ [c] }
  ({ t with free := t.free + 1 }).send r (.authenticate c)

/-! ## Outcomes (R20 to R23) -/

/-- The outcome display time, 1.5 s (R9, R20). -/
def displayTime : Nat := 1500000

/-- The session enters HOLDOFF with its outcome, and its `nout` is handed on (R20, R23); the end of a decision interval
then tests the ARMED table (R185).  That the `nout` comes before a TABLE_ACTIVATED is log entry 19. -/
def State.finish (r : Reader) (o : CardOutcome) (charge : Nat) (balance : Option Int) (s : State) : State :=
  let t := s.onSession r fun x =>
    { x with state := .holdoff, outcome := some o, exchange := none, answerWindow := none, intent := none,
             display := some (s.now + displayTime) }
  let number := ((s.session r).card.map (·.number)).getD 0
  let u := t.notify noutBit (.nout r number o charge balance)
  if (s.session r).deciding then u.testDue else u

/-- The session ends with an outcome that charged nothing; the balance is that of the image read, if any (R23). -/
def State.endSession (r : Reader) (o : CardOutcome) (s : State) : State :=
  s.finish r o 0 ((s.session r).image.map (·.balance))

/-- HOLDOFF ends when the display has run or a new card has come, and the pending record slot is empty (R20). -/
def State.endHoldoff (r : Reader) (s : State) : State :=
  let x := s.session r
  if x.state = .holdoff ∧ (x.display = none ∨ s.cards.presence (s.linkOf r) = .newCard) ∧ (s.journal.slot r) = [] then
    s.onSession r fun _ =>
      { Session.initial with state := if s.readerShut r then .closed else .ready, collision := x.collision }
  else s

/-! ## The session's records (R147) -/

/-- A record of the session: its card, the versions of R14 and R27, and the deny reason of R27. -/
def State.sessionRecord (r : Reader) (k : JournalKind) (reason : Nat) (s : State) : JournalRecord :=
  let x := s.session r
  let c := x.card.getD default
  let d := s.draftRecord k r reason
  { d with number := c.number, cls := c.cls, counterBefore := c.counter,
           counterAfter := if k.cardWriting then c.counter + 1 else c.counter, denyReason := x.denyReason,
           fareVersion := x.fareVersion.getD d.fareVersion, denyVersion := x.denyVersion.getD d.denyVersion }

/-- The balance, journey, day, trip and continuation fields of an image (R147). -/
def JournalRecord.withImage (rec : JournalRecord) (i : CardImage) : JournalRecord :=
  { rec with balance := i.balance, journeyStation := i.journeyStation, journeyZone := i.journeyZone, band := i.band,
             dayTotal := i.dayTotal, journeyCharged := i.journeyCharged, trip := i.trip, continuations := i.continuations }

/-- The fields as read, or 0 when no image was read (R147). -/
def JournalRecord.asRead (rec : JournalRecord) (i : Option CardImage) : JournalRecord :=
  match i with
  | some i => rec.withImage i
  | none => rec

/-- This zone, 0 while the identity is unset. -/
def State.zone (s : State) : Nat := (s.station.identity.map (·.zone)).getD 0

/-- A refusal: a REFUSED record with the outcome as its reason, then HOLDOFF (R10, R22).  That its "this zone" is 0 is log
entry 20. -/
def State.refuse (r : Reader) (o : CardOutcome) (s : State) : State :=
  (s.submitRecord r ((s.sessionRecord r .refused o.code).asRead (s.session r).image)).endSession r o

/-- A Fare Engine's refusal (R72).  Log entry 20. -/
def State.refuseFare (r : Reader) (o : CardOutcome) (fare charge dayTotal : Nat) (s : State) : State :=
  let rec_ := (s.sessionRecord r .refused o.code).asRead (s.session r).image
  (s.submitRecord r { rec_ with fare := fare, charged := charge, dayTotal := dayTotal, thisZone := s.zone }).endSession r o

/-! ## The intent (R16, R151) -/

/-- The session's intent enters the staging queue; a RESERVED credit takes its sequence number (R16, R93). -/
def State.enterIntent (r : Reader) (rec : JournalRecord) (s : State) : State :=
  let seq := s.journal.nextSeq
  let t := (s.enterRecord rec (.session r)).onSession r fun x => { x with intent := none, intentSeq := some seq }
  t.numberCredit r seq

/-- AWAIT_INTENT: the intent enters at once, or waits behind what began to wait before it (R16, R83, R151). -/
def State.awaitIntent (r : Reader) (rec : JournalRecord) (s : State) : State :=
  let t := s.onSession r fun x => { x with state := .awaitIntent, exchange := none, answerWindow := none }
  if t.journal.waiting.isEmpty && t.journal.room 2 then t.enterIntent r rec
  else (t.onSession r fun x => { x with intent := some rec }).joinLine r .intent

/-- The block path: the outcome is set, and a BLOCK intent is queued (R19). -/
def State.blockCard (r : Reader) (o : CardOutcome) (s : State) : State :=
  let t := s.onSession r fun x => { x with blockPath := true, outcome := some o }
  t.awaitIntent r ((t.sessionRecord r .block o.code).asRead (t.session r).image)

/-- The intent of a decision (R71). -/
def State.intentRecord (r : Reader) (d : Decision) (s : State) : JournalRecord :=
  { (s.sessionRecord r d.kind 0).withImage d.image with
    unclosed := d.unclosed, fare := d.fare, charged := d.charge, thisZone := s.zone, minute := d.minute }

/-! ## Decision and claim (R14, R15) -/

/-- The Fare Engine's decision for the reader and the mode (R14, R51, R63). -/
def State.ruling (s : State) (r : Reader) (t : FareTable) (card : CardId) (i : CardImage) : Ruling :=
  let c : FareCase := { table := t, here := s.station.identity.getD default, now := s.minute, cls := card.cls, image := i }
  match r with
  | .U => entryDecision c
  | .P => if s.aisle.mode = .emergency then emergencyExitDecision c else exitDecision c

/-- An admission (R14, R15): in EMERGENCY straight to AWAIT_INTENT, otherwise through the claim. -/
def State.accept (r : Reader) (d : Decision) (s : State) : State :=
  let t := s.onSession r fun x => { x with decision := some d }
  if s.aisle.mode = .emergency then t.awaitIntent r (t.intentRecord r d)
  else if t.askClaim (directionOfReader r) = .granted then
    (t.addCredit { direction := directionOfReader r, source := .card, state := .reserved, seq := none, reader := some r }).awaitIntent
      r (t.intentRecord r d)
  else t.endSession r .aisleBusy

/-- The decision step (R14, step 3).  With no active table the reader is CLOSED and the session interrupted (R7).
Log entry 36. -/
def State.decideFare (r : Reader) (card : CardId) (i : CardImage) (s : State) : State :=
  match s.fare with
  | none => s.endSession r .aborted
  | some table =>
    let t := s.onSession r fun x => { x with fareVersion := some table.version, denyVersion := some s.check.denyVersion }
    match t.ruling r table card i with
    | .accept d => t.accept r d
    | .refuse o fare charge dayTotal => t.refuseFare r o fare charge dayTotal

/-- Screening, and the decision when it passes (R14 steps 2 and 3, R46). -/
def State.screenAndDecide (r : Reader) (card : CardId) (i : CardImage) (s : State) : State :=
  let t := s.search card.number
  match screen (t.check.sighting card.number) card.counter i.writer with
  | some k => (t.detect card.number k .clone).blockCard r .cloneDetected
  | none => t.decideFare r card i

/-! ## Settling a torn write (R79 to R83) -/

/-- A RESOLVED record (R83).  Log entry 20. -/
def State.resolvedRecord (r : Reader) (card : CardId) (i : CardImage) (e : RecoveryEntry) (k : Settlement) (s : State) :
    JournalRecord :=
  { s.draftRecord .resolved r k.code with
    number := card.number, cls := card.cls, counterBefore := e.before, counterAfter := card.counter,
    referenced := some e.seq, balance := i.balance, journeyStation := i.journeyStation, journeyZone := i.journeyZone,
    band := i.band, dayTotal := i.dayTotal, journeyCharged := i.journeyCharged, thisZone := s.zone }

/-- The sighting of a DONE settlement, and the entry's removal (R80, items 2 and 3).  That its direction is the entry's, at the
other reader too, is log entry 56. -/
def State.settleDone (e : RecoveryEntry) (s : State) : State :=
  (s.localSighting e.number e.after e.stamp e.direction).dropRecovery e.number

/-- An honoured admission (R81).  Log entry 39. -/
def State.honour (r : Reader) (card : CardId) (i : CardImage) (e : RecoveryEntry) (s : State) : State :=
  let rec_ := s.resolvedRecord r card i e .done
  if s.aisle.mode = .emergency then ((s.submitRecord r rec_).settleDone e).endSession r .honoured
  else if !s.journal.room 1 then s.endSession r .aisleBusy
  else if s.askClaim e.direction = .granted then
    let seq := s.journal.nextSeq
    let t := ((s.enterRecord rec_ .single).settleDone e).addCredit
      { direction := e.direction, source := .card, state := .active, seq := some seq, reader := some r }
    t.endSession r .honoured
  else s.endSession r .aisleBusy

/-- The Recovery List check, and what follows it (R14 step 1, R79 to R82). -/
def State.checkRecovery (r : Reader) (card : CardId) (i : CardImage) (s : State) : State :=
  match s.recoveryFor card.number with
  | none => s.screenAndDecide r card i
  | some e =>
    let k := settlementOf e card.counter i.writer
    let rec_ := s.resolvedRecord r card i e k
    if k = .done then
      if s.now < e.honourDeadline ∧ e.direction = directionOfReader r then s.honour r card i e
      else ((s.submitRecord r rec_).settleDone e).screenAndDecide r card i
    else ((s.submitRecord r rec_).dropRecovery e.number).screenAndDecide r card i

/-! ## The write and its ends (R16 to R19) -/

/-- The counter before of the session's card. -/
def Session.counterBefore (x : Session) : Nat := (x.card.map (·.counter)).getD 0

/-- The intent is programmed: WRITE or BLOCK is sent with the counter before; the honour window starts (R16, R75). -/
def State.sendWrite (r : Reader) (s : State) : State :=
  let x := s.session r
  let t := s.onSession r fun x =>
    { x with state := .writing, honourDeadline := s.now + 1000000 * s.settings.inForce.honourWindow }
  match x.blockPath, x.decision with
  | false, some d => t.send r (.write (encodeImage d.image) x.counterBefore)
  | _, _ => t.send r (.block x.counterBefore)

/-- The mark of the session's intent enters the staging queue (R149). -/
def State.markIntent (r : Reader) (st : RecordStatus) (prepared : Option RecoveryEntry) (s : State) : State :=
  match (s.session r).intentSeq with
  | some seq => s.markRecord seq st prepared
  | none => s

/-- The admitted outcome of a journal kind (R22). -/
def JournalKind.admitted : JournalKind → CardOutcome
  | .entry => .admittedEntry
  | .emergencyExit => .emergencyExit
  | _ => .admittedExit

/-- The credit of a COMPLETE fare write: ACTIVE, or the UNUSED record of a withheld one; none for an emergency exit (R17,
R24, R93).  That this record's fare minute is the one of the COMPLETE is log entry 61. -/
def State.grantCredit (r : Reader) (d : Decision) (s : State) : State :=
  let x := s.session r
  if d.kind = .emergencyExit then s
  else if x.withheld then s.offerRecord (s.unusedRecord reasonMode d.direction x.intentSeq)
  else s.activateCredit r

/-- The write is COMPLETE (R17, R18, R19). -/
def State.completeWrite (r : Reader) (s : State) : State :=
  let x := s.session r
  let t := s.markIntent r .complete none
  match x.blockPath, x.decision, x.card with
  | false, some d, some card =>
    ((t.grantCredit r d).localSighting card.number (card.counter + 1) d.image.writer (directionOfReader r)).finish
      r d.kind.admitted d.charge (some d.image.balance)
  | _, _, _ => t.endSession r (x.outcome.getD .writeFailed)

/-- The write was not made: VOID (R17, R18, R19). -/
def State.voidWrite (r : Reader) (s : State) : State :=
  ((s.markIntent r .void none).removeCredit r).endSession r ((s.session r).outcome.getD .writeFailed)

/-- The Recovery List entry that an UNCERTAIN fare write prepares (R18, R75). -/
def Session.prepared (x : Session) (r : Reader) : Option RecoveryEntry :=
  match x.blockPath, x.card, x.decision, x.intentSeq with
  | false, some card, some d, some seq =>
    some { number := card.number, before := card.counter, after := card.counter + 1, seq := seq,
           direction := directionOfReader r, minute := d.minute, stamp := d.image.writer,
           honourDeadline := x.honourDeadline }
  | _, _, _, _ => none

/-- The write's result is not known: UNCERTAIN (R18, R19).  That TEAR is raised before the `nout` is handed on is log
entry 19. -/
def State.uncertainWrite (r : Reader) (s : State) : State :=
  let x := s.session r
  (((s.markIntent r .uncertain (x.prepared r)).raise .tear).removeCredit r).endSession r (x.outcome.getD .torn)

/-- QUERY is sent (R17). -/
def State.sendQuery (r : Reader) (s : State) : State :=
  (s.onSession r fun x => { x with state := .querying, resendUsed := false }).send r .query

/-- The answer to a WRITE or a BLOCK (R17). -/
def State.writeAnswered (r : Reader) (a : WriteReply) (s : State) : State :=
  match a with
  | .accepted c => if c = (s.session r).counterBefore + 1 then s.completeWrite r else s.sendQuery r
  | .rejected => s.voidWrite r

/-- The answer to a QUERY (R18). -/
def State.queryAnswered (r : Reader) (c : Nat) (s : State) : State :=
  let b := (s.session r).counterBefore
  if c = b + 1 then s.completeWrite r else if c = b then s.voidWrite r else s.uncertainWrite r

/-! ## The identity, the list check and authentication (R10 to R12, R31) -/

/-- The twin mark takes effect: CLONE_DETECTED with a REFUSED record (R11). -/
def State.twinEnd (r : Reader) (s : State) : State := s.refuse r .cloneDetected

/-- The first session of a twin presence receives the twin mark in AUTHENTICATING or READING (R11). -/
def Session.twinned (x : Session) : Session :=
  match x.state with
  | .authenticating | .reading => { x with twin := true }
  | _ => x

/-- Twin presence (R11). -/
def State.twinPresence (r : Reader) (number : Nat) (s : State) : State :=
  ((s.detect number .twin .clone).onSession (otherReader r) Session.twinned).refuse r .cloneDetected

/-- The list check (R10 rows 3 and 4, R27, R35). -/
def State.listCheck (r : Reader) (number : Nat) (s : State) : State :=
  let version := s.check.denyVersion
  if (s.check.hot number).isSome then
    ({ s with check := s.check.countHot number }).onSession r fun x =>
      { x with verdict := some .cloneListed, denyVersion := some version }
  else
    match s.check.denied number with
    | some e =>
      s.onSession r fun x =>
        { x with verdict := some .denyListed, denyReason := e.reason, denyVersion := some version }
    | none => s.onSession r fun x => { x with denyVersion := some version }

/-- The outcome of a verdict (R10, R19). -/
def ListVerdict.outcome : ListVerdict → CardOutcome
  | .denyListed => .denyListed
  | .cloneListed => .cloneListed

/-- The checks of R10 behind the twin test. -/
def State.identityChecks (r : Reader) (card : CardId) (s : State) : State :=
  if card.status = .blocked then s.refuse r .cardBlocked
  else
    let t := s.listCheck r card.number
    let known := (t.check.keyFor card.keyVersion).isSome
    match (t.session r).verdict with
    | some v => if known && card.counter != 65535 then t.sendAuthenticate r else t.refuse r v.outcome
    | none =>
      if card.counter = 65535 then t.refuse r .cardExhausted
      else if known then t.sendAuthenticate r
      else t.refuse r .keyUnknown

/-- The IDENTIFY answer is taken (R10). -/
def State.identified (l : Link) (r : Reader) (card : CardId) (s : State) : State :=
  let other := s.cards.inSession (s.linkOf (otherReader r))
  let t := ({ s with cards := s.cards.setInSession l (some card.number) }).onSession r fun x =>
    { x with card := some card, exchange := none, answerWindow := none, resendUsed := false }
  if other = some card.number then t.twinPresence r card.number else t.identityChecks r card

/-- An equal response (R12): the block path for a verdict, otherwise READ. -/
def State.authenticated (r : Reader) (s : State) : State :=
  match (s.session r).verdict with
  | some v => s.blockCard r v.outcome
  | none => (s.onSession r fun x => { x with state := .reading, resendUsed := false }).send r .read

/-- A mismatch (R12, R31). -/
def State.mismatched (r : Reader) (card : CardId) (s : State) : State :=
  if (s.session r).mismatchUsed then (s.detect card.number .auth .clone).refuse r .counterfeit
  else (s.onSession r fun x => { x with mismatchUsed := true }).sendAuthenticate r

/-- The READ answer is taken (R5, R13). -/
def State.readTaken (r : Reader) (card : CardId) (bytes : List Byte) (s : State) : State :=
  let i := decodeImage bytes
  let t := s.onSession r fun x => { x with image := some i, exchange := none, answerWindow := none }
  if (s.session r).twin then t.twinEnd r
  else if imageGood bytes then t.checkRecovery r card i
  else t.refuse r .cardDataError

/-! ## Windows running out, removal, interruption (R3, R12, R16 to R19, R24) -/

/-- An answer window has run out (R3, R12, R17, R18). -/
def State.windowRan (r : Reader) (e : Exchange) (s : State) : State :=
  let x := s.session r
  let t := s.onSession r fun x => { x with exchange := none, answerWindow := none }
  let again := fun e => (t.onSession r fun x => { x with resendUsed := true }).send r e
  match e with
  | .identify => if x.resendUsed then t.endSession r .lost else again .identify
  | .authenticate _ =>
    if x.twin then t.twinEnd r
    else if x.noAnswerUsed then t.endSession r .lost
    else (t.onSession r fun x => { x with noAnswerUsed := true }).sendAuthenticate r
  | .read => if x.twin then t.twinEnd r else if x.resendUsed then t.endSession r .lost else again .read
  | .write _ _ => t.sendQuery r
  | .block _ => t.sendQuery r
  | .query => if x.resendUsed then t.uncertainWrite r else again .query

/-- The intent of a session leaves the waiting line. -/
def Journal.dropIntent (j : Journal) (r : Reader) : Journal :=
  { j with waiting := j.waiting.filter fun w => !(decide (w.reader = r) && decide (w.item = .intent)) }

/-- A staged intent whose session has ended owes its VOID mark (R16, R149). -/
def Journal.disown (j : Journal) (r : Reader) : Journal :=
  { j with staging := j.staging.map fun e =>
      match e with
      | .record rec pos owner => .record rec pos (if owner = .session r then .voidOwed else owner)
      | e => e }

/-- CARD_REMOVED in AWAIT_INTENT (R16, R19). -/
def State.removedWaiting (r : Reader) (s : State) : State :=
  let t := { s with journal := (s.journal.dropIntent r).disown r }
  (t.removeCredit r).endSession r ((s.session r).outcome.getD .lost)

/-- What CARD_REMOVED does to the session (R3, R11, R16 to R18). -/
def State.removedFrom (r : Reader) (s : State) : State :=
  let x := s.session r
  match x.state with
  | .closed | .ready | .holdoff => s
  | .identifying | .authenticating | .reading => if x.twin then s.twinEnd r else s.endSession r .lost
  | .awaitIntent => s.removedWaiting r
  | .writing | .querying => s.uncertainWrite r

/-- The session's RESERVED credit is removed, and the session carries it as withheld (R24, R87, R93). -/
def State.withhold (r : Reader) (s : State) : State :=
  if s.aisle.reserved r then (s.removeCredit r).onSession r fun x => { x with withheld := true } else s

/-- An interruption of a session; a mode change or a supply warning withholds its credit (R24). -/
def State.interrupt (withholds : Bool) (r : Reader) (s : State) : State :=
  match (s.session r).state with
  | .closed | .ready | .holdoff => s
  | .identifying | .authenticating | .reading => s.endSession r .aborted
  | .awaitIntent | .writing | .querying => if withholds then s.withhold r else s

end Sys2Proof.Machine
end

