-- ==== Sys2Proof/Machine/Modes.lean ====
section
/-! DEFINITION. Changes of the gate mode, the supply warning, and pending settings taking effect (sections 5.1, 5.2, 5.6,
5.7, 6.8 and 9.2). -/

namespace Sys2Proof.Machine

/-- The gate mode that the line, the host request and the return mode give (R85). -/
def Aisle.modeNow (a : Aisle) : GateMode :=
  if a.emergencyLine.level || a.hostEmergency then .emergency else a.returnMode

/-- Both sessions are interrupted (R24). -/
def State.interruptBoth (s : State) : State := (s.interrupt true .U).interrupt true .P

/-- The UNUSED records of the ACTIVE CARD credits, oldest first, with reason MODE (R87, item 2). -/
def State.recordUnused (cs : List Credit) (s : State) : State :=
  cs.foldl (fun t c =>
    if c.isActive && decide (c.source = .card) then t.offerRecord (t.unusedRecord reasonMode c.direction c.seq) else t) s

/-- What a change to EMERGENCY or OUT_OF_SERVICE does to sessions, queue, timers and claim (R87). -/
def State.clearAisle (s : State) : State :=
  let t := s.interruptBoth
  let u := t.recordUnused t.aisle.credits
  { u with aisle := ({ u.aisle with credits := [], window := .stopped, closeDelay := none }).settleClaim }

/-- A leaf's part in a change of mode (R123, R128). -/
def State.leavesOnMode (before after : GateMode) (s : State) : State :=
  if after = .emergency then s.moveLeaves fun v l => (l.onEmergency v).quiet
  else if before = .emergency then (s.moveLeaves fun _ l => l.offEmergency.quiet).moveLeaves fun v l => l.onCondition v
  else s

/-- The gate mode changes (R85 to R87, R104).  A change to MANUAL keeps the target in force as the MANUAL target, be it
the supply warning's (R104, R126).  That the messages of the interrupted sessions come before EMERGENCY is log entry 19. -/
def State.changeMode (m : GateMode) (s : State) : State :=
  let before := s.aisle.mode
  let t : State := { s with aisle := { s.aisle with
    mode := m, target := if m = .manual then s.targetInForce else s.aisle.target } }
  let u := if m = .emergency ∨ m = .outOfService then t.clearAisle else t
  let v := (u.retarget (decide (m = .normal))).leavesOnMode before m
  (v.raiseIf (decide (m = .emergency)) .emergency).followReaders

/-- The gate mode follows what decides it (R85). -/
def State.followMode (s : State) : State :=
  if s.aisle.modeNow = s.aisle.mode then s else s.changeMode s.aisle.modeNow

/-! ## The supply warning (R24, R93, R105, R129, R168) -/

/-- The store's operation is suspended: its maximum time stops (R168). -/
def Store.suspend (st : Store) : Store := { st with op := st.op.map fun o => { o with deadline := none } }

/-- The suspended operation restarts from its beginning with a full maximum time (R168). -/
def Store.resume (st : Store) (now : Nat) : Store :=
  { st with op := st.op.map fun o => { o with deadline := some (now + o.action.kind.maxTime) } }

/-- The supply-warning line becomes active.  Its flag is first set when the scan ends, as every level kind's is (R210).  That
SUPPLY_WARNING comes before the messages of the interrupted sessions is log entry 19. -/
def State.startWarning (s : State) : State :=
  let t := { s with supplyWarning := true }
  match s.phase with
  | .off | .inReset => t
  | .scanning => { t with store := t.store.suspend }
  | .running => ((({ t with store := t.store.suspend }).raise .supplyWarning).interruptBoth).handWarning

/-- The supply-warning line becomes inactive. -/
def State.endWarning (s : State) : State :=
  let t := { s with supplyWarning := false }
  match s.phase with
  | .off | .inReset => t
  | .scanning => ({ t with store := t.store.resume t.now }).startStore
  | .running => ({ t with store := t.store.resume t.now }).handAnew.startStore

/-! ## Settings taking effect (R89, R106, R107, R111) -/

/-- The settings that may take effect go into force (R106). -/
def State.applySettings (s : State) : State :=
  let due := s.settings.pending.filter s.mayTakeEffect
  let failOpen := s.settings.inForce.failOpen
  let t := { s with settings := { s.settings with
      inForce := due.foldl (fun v id => v.set id (s.settings.stored.get id)) s.settings.inForce,
      pending := s.settings.pending.filter fun id => !s.mayTakeEffect id } }
  if t.supplyWarning && t.settings.inForce.failOpen != failOpen then t.handWarning else t

/-- A reader's session is interrupted when the new direction excludes the reader (R24, R89). -/
def State.interruptExcluded (r : Reader) (s : State) : State :=
  if excludes s.aisle.direction (directionOfReader r) then s.interrupt false r else s

/-- The pending direction takes effect (R89). -/
def State.applyDirection (s : State) : State :=
  match s.aisle.pendingDirection with
  | some d =>
    if s.holdMet then
      let t := { s with aisle := { s.aisle with direction := d, pendingDirection := none } }
      (((t.queueControl .settings).interruptExcluded .U).interruptExcluded .P).followReaders
    else s
  | none => s

/-- Everything pending whose conditions hold takes effect together (R106): the direction first, which moves no leaf, so that
the settings find the hold's conditions as the direction did. -/
def State.applyPending (s : State) : State := s.applyDirection.applySettings

end Sys2Proof.Machine
end

