-- ==== Sys2Proof/Machine/Loader.lean ====
section
/-! DEFINITION. The Table Loader: the staged fare table, activation of a full load, and the deny list's deltas (chapter 10). -/

namespace Sys2Proof.Machine

/-! ## The fare table (R182 to R184, R187) -/

/-- The version of a staged image (section 10.1). -/
def Staged.version (x : Staged) : Nat := field x.image 0 4

/-- The staged table is ARMING. -/
def Staged.isArming : Staged → Bool
  | .arming _ => true
  | .empty | .armed _ => false

/-- The indices of the parts that the buffer holds, and of those it does not (R181, R182).  Their form in a reply is log entry
68. -/
def heldParts (ps : List (Option (List Byte))) : List Nat :=
  (ps.zipIdx.filter fun q => q.1.isSome).map (·.2)
def missingParts (ps : List (Option (List Byte))) : List Nat :=
  (ps.zipIdx.filter fun q => q.1.isNone).map (·.2)

/-- The image that the parts make. -/
def joinParts (ps : List (Option (List Byte))) : List Byte := ps.flatMap fun p => p.getD []

/-- An empty upload buffer. -/
def noParts : List (Option (List Byte)) := List.replicate 8 none

/-- The staging bank once nothing is staged: with no active table it is bank A (R178). -/
def Loader.emptyBank (l : Loader) : Bank := if l.activeBank = none then .A else l.stagingBank

/-- The loader with its staged table EMPTY (R178, R183, R184). -/
def Loader.dropStaged (l : Loader) : Loader :=
  { l with staged := .empty, stagingBank := l.emptyBank }

/-! ## The deny list (R188 to R194) -/

/-- The staging deny bank: the one that does not carry the active list's mark, or bank A (R190). -/
def Loader.stagingDeny (l : Loader) : Bank :=
  match l.markedBank with
  | some b => b.other
  | none => .A

/-- The staged list is discarded and the load state is IDLE. -/
def Loader.idle (l : Loader) : Loader := { l with load := .idle, list := [], listVersion := 0, listCount := 0 }

/-- A STAGED load is tested (R191). -/
def State.loadDue (s : State) : Bool := decide (s.loader.load = .staged) && s.atBoundary

/-- The test of a STAGED load (R191, R192): stale, or activated with its mark job queued. -/
def State.testLoad (s : State) : State :=
  let l := s.loader
  if l.listVersion ≤ s.check.denyVersion then ({ s with loader := l.idle }).raise .denyStale
  else
    let t := { s with check := { s.check with denyList := l.list, denyVersion := l.listVersion },
                      loader := { l with load := .activating } }
    (t.raise .denyActivated).queueJob (.denyMark l.stagingDeny l.listVersion)

/-- An entry in its ascending place (R193). -/
def insertDeny (e : DenyEntry) : List DenyEntry → List DenyEntry
  | [] => [e]
  | x :: xs => if e.number < x.number then e :: x :: xs else x :: insertDeny e xs

/-- A delta applied to a list (R179, R193). -/
def Delta.apply (d : Delta) (xs : List DenyEntry) : List DenyEntry :=
  if d.add then insertDeny { number := d.number, reason := d.reason } xs else xs.filter fun e => e.number != d.number

/-- A delta's operation applies to a list (R179). -/
def Delta.applies (d : Delta) (xs : List DenyEntry) : Bool :=
  let present := xs.any fun e => e.number == d.number
  if d.add then !present && decide (xs.length < 8192) else present

/-- A delta is applied: the list, its version, the log's use and the slot job (R193, R194). -/
def State.takeDelta (d : Delta) (s : State) : State :=
  let slot := s.loader.logUse
  let t := { s with check := { s.check with denyList := d.apply s.check.denyList, denyVersion := d.version },
                    loader := { s.loader with logUse := slot + 1 } }
  t.queueJob (.deltaSlot slot d)

end Sys2Proof.Machine
end

