-- ==== Sys2Proof/Machine/Completions.lean ====
section
/-! DEFINITION. What each owner does when the store reports its operation ended (R152, R154, R159, R164, R167, R183, R186,
R190, R192). -/

namespace Sys2Proof.Machine

/-! ## The journal's operations (R152, R154, R159) -/

/-- The oldest entry leaves the staging queue. -/
def Journal.popStaging (j : Journal) : Journal := { j with staging := j.staging.tail }

/-- A position changes. -/
def Journal.onPosition (j : Journal) (pos : Nat) (f : Position → Position) : Journal :=
  { j with positions := j.positions.map fun p => if p.pos = pos then f p else p }

/-- A session whose intent has been programmed goes on to its write (R16). -/
def State.intentProgrammed (r : Reader) (seq : Nat) (s : State) : State :=
  if (s.session r).state = .awaitIntent ∧ (s.session r).intentSeq = some seq then s.sendWrite r else s

/-- A session whose intent could not be programmed ends WRITE_FAILED, or with its block outcome (R16, R19). -/
def State.intentFailed (r : Reader) (seq : Nat) (s : State) : State :=
  if (s.session r).state = .awaitIntent ∧ (s.session r).intentSeq = some seq then
    (s.removeCredit r).endSession r ((s.session r).outcome.getD .writeFailed)
  else s

/-- A record program is reported programmed (R152). -/
def State.recordProgrammed (rec : JournalRecord) (pos : Nat) (owner : RecordOwner) (s : State) : State :=
  let j := (s.journal.popStaging).onPosition pos fun p => { p with reported := true }
  let t := { s with journal := { j with newestProgrammed := max j.newestProgrammed rec.seq } }
  match owner with
  | .single => t
  | .session r => t.intentProgrammed r rec.seq
  | .voidOwed => t.markRecord rec.seq .void none

/-- A record program has failed: the entry becomes a DAMAGED mark, and an intent's reservation is dropped (R152). -/
def State.recordFailed (rec : JournalRecord) (pos : Nat) (owner : RecordOwner) (s : State) : State :=
  let j := s.journal.onPosition pos fun p => { p with status := .damaged, reported := true }
  let t := { s with journal := { j with
      staging := .damagedMark pos :: j.staging.tail,
      reservations := if rec.kind.cardWriting then j.reservations - 1 else j.reservations } }
  match owner with
  | .session r => t.intentFailed r rec.seq
  | .single | .voidOwed => t

/-- A status mark is reported: programmed, its prepared entry enters the Recovery List; failed, the record is unverified
and the entry is discarded (R74, R152).  An entry over age does not enter: its record receives no RESOLVED after the lifetime
(R77, R84).  Log entry 63. -/
def State.markReported (success : Bool) (pos : Nat) (prepared : Option RecoveryEntry) (s : State) : State :=
  let j := s.journal.popStaging
  if success then
    { s with journal := j,
             recovery := match prepared with
               | some e => if s.withinLifetime e then enterRecovery e s.recovery else s.recovery
               | none => s.recovery }
  else { s with journal := j.onPosition pos fun p => { p with unverified := true } }

/-- The staging queue's operation has ended (R152). -/
def State.stagingDone (success : Bool) (s : State) : State :=
  match s.journal.staging with
  | [] => s
  | .record rec pos owner :: _ => if success then s.recordProgrammed rec pos owner else s.recordFailed rec pos owner
  | .mark pos _ prepared :: _ => s.markReported success pos prepared
  | .damagedMark _ :: _ => { s with journal := s.journal.popStaging }

/-- The floor program, or a step of the refresh it needs, has ended (R154, R172).  Log entry 30. -/
def State.floorDone (success : Bool) (next : Option Nat) (s : State) : State :=
  match s.journal.eraseWork, success, next with
  | .floor k value _, true, some n => { s with journal := { s.journal with eraseWork := .floor k value n } }
  | .floor k value _, true, none =>
    { s with journal := { s.journal with floor := max s.journal.floor value, eraseWork := .erase k } }
  | _, false, _ => { s with journal := { s.journal with eraseWork := .idle } }
  | _, true, _ => s

/-- The sequence numbers of a sector's records. -/
def Journal.sectorSeqs (j : Journal) (k : Nat) : List Nat :=
  (j.positions.filter fun p => p.pos / 64 == k).filterMap (·.seq)

/-- A journal sector erase has ended (R159).  Log entry 30. -/
def State.eraseDone (success : Bool) (k : Nat) (s : State) : State :=
  if success then ({ s with journal := s.journal.sectorErased k }).forgetErased (s.journal.sectorSeqs k)
  else { s with journal := { s.journal with eraseWork := .held } }

/-! ## The jobs -/

/-- The lock after a lock entry program: one more entry is spent, and a later attempt uses the next blank one (R174). -/
def Station.afterLock (t : Station) (m : Memory) (lock : LockState) : Station :=
  { t with lock := lock, spent := t.spent + 1, nextLock := blankLockFrom m (t.nextLock + 1) }

/-- A job's last operation is reported done. -/
def State.jobDone (k : JobKind) (s : State) : State :=
  match k with
  | .control _ | .deltaSlot _ _ | .hotRewrite _ | .withdrawal _ => s
  | .lockEntry =>
    { s with station := s.station.afterLock s.store.memory .locked }
  | .arm _ => ({ s with loader := { s.loader with staged := .armed s.loader.staged.image } }).testDue
  | .fareMark _ _ => { s with loader := { s.loader with markPending := false } }
  | .denyBank _ => { s with loader := { s.loader with load := .staged } }
  | .denyMark b _ => ({ s with loader := { s.loader with markedBank := some b } }).queueJob .logErase
  | .logErase => { s with loader := { s.loader.idle with logUse := 0 } }

/-- A job has ended at an operation that failed verify (R167). -/
def State.jobFailed (k : JobKind) (s : State) : State :=
  match k with
  | .control _ | .deltaSlot _ _ | .hotRewrite _ | .withdrawal _ => s
  | .lockEntry =>
    { s with station := s.station.afterLock s.store.memory .unlocked }
  | .arm _ => { s with loader := s.loader.dropStaged }
  | .fareMark _ _ => { s with loader := { s.loader with markPending := false } }
  | .denyBank _ => { s with loader := s.loader.idle }
  | .denyMark _ _ => { s with loader := s.loader.idle }
  | .logErase => { s with loader := { s.loader.idle with logUse := 256 } }

/-- The front job's operation has ended: the job goes on, ends done, or ends failed (R166). -/
def State.jobOperationDone (success : Bool) (next : Option Nat) (s : State) : State :=
  match s.store.jobs with
  | [] => s
  | j :: _ =>
    if success then
      match next with
      | some n => s.jobAdvance (some n)
      | none => (s.jobAdvance none).jobDone j.kind
    else (s.jobAdvance none).jobFailed j.kind

/-- A mark of the scan has failed verify: the record it is on is unverified, and a DAMAGED position holds none (R152, R157,
R160). -/
def ScanOp.failed (w : ScanOp) (j : Journal) : Journal :=
  match w with
  | .mark pos st => if st = .damaged then j else j.onPosition pos fun p => { p with unverified := true }
  | .settingsDefaults _ => j

/-- The scan's program goes on to its next operation. -/
def ScanOp.advance (w : ScanOp) (next : Nat) : ScanOp :=
  match w with
  | .settingsDefaults _ => .settingsDefaults next
  | .mark pos st => .mark pos st

/-- An operation of the start-up scan has ended: the scan's program goes on to its next operation, or has ended, done or
failed (R160, R171, R176). -/
def State.scanProgramDone (success : Bool) (next : Option Nat) (s : State) : State :=
  match s.scanWork, success, next with
  | [], _, _ => s
  | w :: ws, true, some n => { s with scanWork := w.advance n :: ws }
  | _ :: ws, true, none => { s with scanWork := ws }
  | w :: ws, false, _ => { s with scanWork := ws, journal := w.failed s.journal }

/-! ## Ending the operation in progress -/

/-- The operation ends, its owner acts, and the arbiter starts the next (R164, R166). -/
def State.completeOp (ok : Bool) (op : StoreOp) (s : State) : State :=
  let success := s.opSucceeds ok op
  let t := s.endOp ok op
  let u :=
    match op.owner with
    | .staging => t.stagingDone success
    | .floorWrite => t.floorDone success op.next
    | .journalErase k => t.eraseDone success k
    | .job => t.jobOperationDone success op.next
    | .scan => t.scanProgramDone success op.next
  u.startStore

/-- The kind of the job that runs the operation. -/
def State.runningJob (s : State) : Option JobKind :=
  match s.runningOp with
  | some op => if op.owner = .job then s.store.jobs.head?.map (·.kind) else none
  | none => none

/-- The operation in progress ends, when it is the front job's and the job is of the kind asked about. -/
def State.completeJobOp (ok : Bool) (p : JobKind → Bool) (s : State) : State :=
  match s.runningJob, s.runningOp with
  | some k, some op => if p k then s.completeOp ok op else s
  | _, _ => s

/-- The operation in progress ends, when it is of the owner asked about. -/
def State.completeOwned (ok : Bool) (p : OpOwner → Bool) (s : State) : State :=
  match s.runningOp with
  | some op => if p op.owner then s.completeOp ok op else s
  | none => s

end Sys2Proof.Machine
end

