-- ==== Sys2Proof/Machine/Reset.lean ====
section
/-! DEFINITION. Supplies, resets and the start-up scan (R88, R108, R131, R135, R163, R169, R177 to R179, R213). -/

namespace Sys2Proof.Machine

/-! ## Resets (R213) -/

/-- A reset of a cause begins: the operation in progress is torn, and what RAM held is lost; the store, the clock, the
raw levels, the supply-warning line and, for RESTART, the sighting table are kept (R44, R169, R213).  Log entry 43. -/
def State.beginReset (cause : ResetCause) (s : State) : State :=
  let t := s.tearStore
  let a := s.aisle
  { State.reset with
    now := s.now, free := t.free, phase := .inReset, supplyWarning := s.supplyWarning, clock := s.clock,
    link := LinkPort.initial cause, check := Check.initial (if cause = .restart then s.check.sightings else []),
    aisle := Aisle.initial a.emergencyLine.raw a.beamA.line.raw a.beamS.line.raw a.beamB.line.raw,
    drive := { left := Leaf.initial s.now s.drive.left.openSwitch.raw s.drive.left.closedSwitch.raw,
               right := Leaf.initial s.now s.drive.right.openSwitch.raw s.drive.right.closedSwitch.raw,
               inForce := .free },
    store := Store.initial t.store.memory, pending := s.pending }

/-- The test of the loss indication (R135). -/
def Clock.testLoss (c : Clock) (now : Nat) : Clock :=
  if c.loss then { seconds := 0, valid := false, loss := false, boundary := now + 1000000 } else c

/-- A leaf's end switch filters start at the end of the reset (R113). -/
def Leaf.startFilters (l : Leaf) (now filter : Nat) : Leaf :=
  { l with openSwitch := l.openSwitch.start now filter, closedSwitch := l.closedSwitch.start now filter }

/-- The reset ends: the loss test, the filters of the emergency line and the end switches, and step 1 of the scan (R88,
R113, R135, R177).  Log entry 41. -/
def State.endReset (s : State) : State :=
  let f := s.settings.inForce.sensorFilter
  { s with phase := .scanning, scanStep := 1, scanWork := [], clock := s.clock.testLoss s.now,
           aisle := { s.aisle with emergencyLine := s.aisle.emergencyLine.start s.now f },
           drive := { s.drive with left := s.drive.left.startFilters s.now f, right := s.drive.right.startFilters s.now f } }

/-! ## The scan's steps (R177) -/

/-- Step 1: the one-time row and sector 0 (R173, R174).  Log entry 31. -/
def scanIdentity (m : Memory) (t : Station) : Station :=
  let valid := (List.range 4).filterMap (lockEntry m)
  let blank := fun i => m.blank (lockEntryAddr i) 6
  { t with
    identity := match valid with
      | i :: _ => some i
      | [] => (recordInForce m 0 .identity).map fun r => identityOf r.body,
    lock := if valid.isEmpty then .unlocked else .locked,
    spent := (List.range 4).countP fun i => !blank i,
    nextLock := blankLockFrom m 0 }

/-- The floor in force after a reset: the highest in any valid FLOOR record of the control sectors (R170). -/
def scanFloor (m : Memory) : Nat :=
  (([0, 1, 2].flatMap (controlRecords m)).filter fun r => r.kind == ControlRecordKind.code .floor).foldl
    (fun f r => max f (field r.body 0 4)) 0

/-- Step 3: the settings record, or the defaults (R89, R176). -/
def State.scanSettings (s : State) : State :=
  let m := s.store.memory
  let t := { s with store := { s.store with fill2 := fillPosition m 2 }, journal := { s.journal with floor := scanFloor m } }
  match recordInForce m 2 .settings with
  | some r =>
    { t with settings := { t.settings with stored := settingsOf r.body },
             aisle := { t.aisle with direction := directionOf r.body } }
  | none =>
    ({ t with settings := { t.settings with stored := Settings.defaults },
              aisle := { t.aisle with direction := .both },
              scanWork := t.scanWork ++ [ScanOp.settingsDefaults 0] }).raise .settingsLost

/-- What step 4 finds (R178): the active table's bank and image, the staged image, and the staging bank. -/
structure FareScan where
  active  : Option (Bank × List Byte)
  staged  : Staged
  staging : Bank
  deriving DecidableEq, Repr

/-- The bank of two that hold a valid image whose version is higher.  Log entry 25. -/
def higherBank (a b : Option (List Byte)) : Option (Bank × List Byte) :=
  match a, b with
  | some x, some y => if field x 0 4 < field y 0 4 then some (.B, y) else some (.A, x)
  | some x, none => some (.A, x)
  | none, some y => some (.B, y)
  | none, none => none

/-- Step 4: the fare banks (R178). -/
def scanFare (m : Memory) : FareScan :=
  let a := fareBankImage m .A
  let b := fareBankImage m .B
  let marked := fun k => fun (x : List Byte) => markedWith m (fareMarkAddr k) (field x 0 4)
  match higherBank (a.filter (marked .A)) (b.filter (marked .B)) with
  | some (k, image) =>
    let other := match k with | .A => b.filter fun x => !marked .B x | .B => a.filter fun x => !marked .A x
    { active := some (k, image), staging := k.other,
      staged := match other with
        | some x => if field image 0 4 < field x 0 4 then .armed x else .empty
        | none => .empty }
  | none =>
    match higherBank a b with
    | some (k, image) => { active := none, staged := .armed image, staging := k }
    | none => { active := none, staged := .empty, staging := .A }

/-- A replay of the delta log (R179). -/
structure Replay where
  list    : List DenyEntry
  version : Nat
  /-- The replay has stopped at a delta above the version reached. -/
  stopped : Bool
  deriving DecidableEq, Repr

/-- One valid slot of the replay (R179). -/
def Replay.step (r : Replay) (d : Delta) : Replay :=
  if r.stopped ∨ d.version ≤ r.version then r
  else if d.version = r.version + 1 ∧ d.applies r.list = true then
    { list := d.apply r.list, version := d.version, stopped := false }
  else { r with stopped := true }

/-- The marked deny bank with the higher version (R179).  Log entry 25. -/
def scanDenyBank (m : Memory) : Option (Bank × Nat × List DenyEntry) :=
  let marked := fun b => (denyBankOf m b).filter fun x => markedWith m (denyMarkAddr b) x.1
  match marked .A, marked .B with
  | some x, some y => if x.1 < y.1 then some (.B, y) else some (.A, x)
  | some x, none => some (.A, x)
  | none, some y => some (.B, y)
  | none, none => none

/-- The non-blank slots of the delta log, and its valid deltas in slot order. -/
def usedDeltas (m : Memory) : List Nat := (List.range 256).filter fun i => !m.blank (deltaAddr i) 16
def validDeltas (m : Memory) : List Delta := (usedDeltas m).filterMap fun i => decodeDelta (m.bytes (deltaAddr i) 16)

/-- Step 5: the deny banks and the delta log (R179, R28).  Log entry 24. -/
def State.scanDeny (s : State) : State :=
  let m := s.store.memory
  let use := (usedDeltas m).foldl (fun n i => max n (i + 1)) 0
  match scanDenyBank m with
  | none =>
    { s with check := { s.check with denyList := [], denyVersion := 0 },
             loader := { s.loader with markedBank := none, logUse := use } }
  | some (b, version, es) =>
    let r := (validDeltas m).foldl Replay.step { list := es, version := version, stopped := false }
    ({ s with check := { s.check with denyList := r.list, denyVersion := r.version },
              loader := { s.loader with markedBank := some b, logUse := use } }).raiseIf r.stopped .storeFault

/-- Step 6: the hot list (R37). -/
def scanHotList (m : Memory) : List HotEntry :=
  (List.range 64).filterMap fun i => decodeHot (m.bytes (sectorBase 6 + 16 * i) 16)

/-- A step of the scan ends and the next begins (R177). -/
def State.scanStepDone (s : State) : State :=
  let m : Memory := s.store.memory
  let t : State :=
    match s.scanStep with
    | 1 => { s with station := scanIdentity m s.station, store := { s.store with fill0 := fillPosition m 0 } }
    | 2 =>
      let body := (recordInForce m 1 .key).map ControlRecord.body
      { s with check := { s.check with key0 := body.bind fun b => keySlotOf (slice b 0 18),
                                       key1 := body.bind fun b => keySlotOf (slice b 18 18) },
               store := { s.store with fill1 := fillPosition m 1 } }
    | 3 => s.scanSettings
    | 4 =>
      let f : FareScan := scanFare m
      { s with fare := f.active.map fun (x : Bank × List Byte) => tableOf x.2,
               loader := { s.loader with activeBank := f.active.map Prod.fst, staged := f.staged, stagingBank := f.staging } }
    | 5 => s.scanDeny
    | _ =>
      let j := scanJournal m s.journal.floor
      { s with check := { s.check with hotList := scanHotList m }, journal := j.journal, scanWork := s.scanWork ++ j.marks }
  ({ t with scanStep := s.scanStep + 1 }).startStore

/-! ## The end of the scan (R177) -/

/-- A beam's filter starts (R97). -/
def BeamState.start (b : BeamState) (now filter : Nat) : BeamState := { b with line := b.line.start now filter }

/-- The mode after the scan (R88).  Log entry 18. -/
def State.modeAfterScan (s : State) : GateMode :=
  if s.aisle.emergencyLine.level then .emergency
  else if s.station.identity.isNone || (s.fare.isNone && !s.loader.staged.isArmed) then .outOfService
  else startModeOf s.settings.stored.startMode

/-- A leaf whose end switches are both active at the end of the scan (R113). -/
def Leaf.stallIfBoth (v : DriveView) (l : Leaf) : Moved := if l.bothActive then l.stallBoth v else l.quiet

/-- The condition of a level kind (section 11.7). -/
def State.levelHolds (s : State) : EventKind → Bool
  | .clockInvalid => !s.clock.valid
  | .beamStuck => s.aisle.beamA.stuck || s.aisle.beamS.stuck || s.aisle.beamB.stuck
  | .leafStall => decide (s.drive.left.state = .stalled) || decide (s.drive.right.state = .stalled)
  | .leafObstructed => decide (s.drive.left.state = .heldOpen) || decide (s.drive.right.state = .heldOpen)
  | .emergency => decide (s.aisle.mode = .emergency)
  | .supplyWarning => s.supplyWarning
  | .journalLow => s.journal.low
  | .journalFull => s.journal.full
  | .tableInvalid => s.fare.isNone
  | .reset | .clone | .cloneLate | .tear | .evasion | .tailgate | .wrongWay | .loiter | .leafSlow | .storeFault
  | .settingsLost | .tableActivated | .denyActivated | .denyStale | .hotlistFull | .linkOverrun => false

/-- The flags of the level kinds whose conditions hold are set (R177, R210). -/
def State.raiseLevels (s : State) : State := levelKinds.foldl (fun t k => t.raiseIf (s.levelHolds k) k) s

/-- The scan ends (R88, R97, R104, R131, R177).  The ARMED table is tested before the level conditions, as R177 lists them
(log entry 52).  Log entry 35. -/
def State.endScan (s : State) : State :=
  let v := s.settings.stored
  let f := v.sensorFilter
  let t := { s with
    phase := .running, scanStep := 0, settings := { s.settings with inForce := v, pending := [] },
    aisle := { s.aisle with
      mode := s.modeAfterScan, returnMode := startModeOf v.startMode, hostEmergency := false, target := .closed,
      beamA := s.aisle.beamA.start s.now f, beamS := s.aisle.beamS.start s.now f, beamB := s.aisle.beamB.start s.now f } }
  ((((t.followReaders.moveLeaves fun v l => l.stallIfBoth v).retarget true).testDue).raiseLevels).startStore

end Sys2Proof.Machine
end

