-- ==== Sys2Proof/Machine/Reports.lean ====
section
/-! DEFINITION. The reports: what `ident`, `stat`, `rparm`, `rtime`, `ftstat` and `dlstat` reply (R112, R139, R187, R195,
R204, R205, R212). -/

namespace Sys2Proof.Machine

/-- The step of the scan, while it runs (R205, R212). -/
def State.scanStepNow (s : State) : Option Nat := if s.phase = .scanning then some s.scanStep else none

/-- The IDENTITY record in force holds the identity now set (R170, R205). -/
def State.identityStored (s : State) : Bool :=
  match s.station.identity with
  | none => false
  | some i =>
    decide ((recordInForce s.store.memory 0 .identity).map (fun r => identityOf r.body) = some i)

/-- The reply of `ident` (R205). -/
def State.identReport (s : State) : IdentReport :=
  { part := 520, revision := 1, scanStep := s.scanStepNow, identity := s.station.identity, stored := s.identityStored,
    lock := s.station.lock }

/-- What `stat` gives of a leaf (R112). -/
def Leaf.report (l : Leaf) : LeafReport :=
  { state := l.state, bridge := l.bridge, count := l.count, openSwitch := l.openSwitch.level,
    closedSwitch := l.closedSwitch.level, mean := windowMean l.window, reopenRuns := l.reopen.isSome,
    lastOpen := l.lastOpen, lastClose := l.lastClose }

/-- The jobs that wait: all but the front job while an operation of it is in progress (R166, R212).  That a job begun counts
while its next operation waits is log entry 59. -/
def Store.jobsWaiting (st : Store) : List JobKind :=
  let waiting : List Job := match st.op with
    | some op => if op.owner = OpOwner.job then st.jobs.tail else st.jobs
    | none => st.jobs
  waiting.map (·.kind)

/-- The stuck beams (R103). -/
def Aisle.stuckBeams (a : Aisle) : List Beam := [Beam.A, .S, .B].filter fun b => (a.beam b).stuck

/-- The reply of `stat` (R212).  The journal reads as after a reset until the journal scan has ended. -/
def State.statusReport (s : State) : StatusReport :=
  let j := if s.phase = .scanning then { Journal.initial with floor := s.journal.floor } else s.journal
  { cause := s.link.cause, scanStep := s.scanStepNow, events := s.link.events, mask := s.link.mask,
    discarded := s.link.discarded, dropped := s.link.dropped, inputFrames := s.link.input.length,
    identity := s.station.identity, identityStored := s.identityStored, lock := s.station.lock,
    lockSpent := s.station.spent, key0 := s.check.key0.map (·.version), key1 := s.check.key1.map (·.version),
    readerU := ((s.session .U).state, s.indicator .U), readerP := ((s.session .P).state, s.indicator .P),
    mode := s.aisle.mode, returnMode := s.aisle.returnMode, hostEmergency := s.aisle.hostEmergency,
    emergencyLine := s.aisle.emergencyLine.level, claim := s.aisle.claim, credits := s.aisle.credits,
    trackPhase := s.aisle.phase, inboundCount := s.aisle.inboundCount, outboundCount := s.aisle.outboundCount,
    unpaidCount := s.aisle.unpaidCount, stuckBeams := s.aisle.stuckBeams, left := s.drive.left.report,
    right := s.drive.right.report, clockValid := s.clock.valid, recoveryCount := s.recovery.length,
    freePositions := j.freePositions, unreleased := j.unreleased.length, nextSeq := j.nextSeq, floor := j.floor,
    stagingEntries := j.staging.length, reservations := j.reservations, freeEntries := j.freeEntries,
    opInProgress := s.store.op.map fun o => o.action.kind, suspended := s.store.op.isSome && s.supplyWarning,
    jobsWaiting := s.store.jobsWaiting, faultCount := s.store.faultCount, latestFault := s.store.latestFault }

/-- The items of `rparm`, identifiers 1 to 29 in order (R204). -/
def SettingsBlock.items (b : SettingsBlock) : List SettingItem :=
  (List.range 29).map fun i =>
    { id := i + 1, inForce := b.inForce.get (i + 1),
      pending := if b.pending.contains (i + 1) then some (b.stored.get (i + 1)) else none }

/-- The reply of `rtime` (R139). -/
def State.timeReport (s : State) : TimeReport :=
  let n := s.clock.seconds
  { valid := s.clock.valid, atLimit := decide (n = clockLimit), seconds := n, minute := s.minute,
    calendar := calendarOf n, weekday := weekdayOf n,
    serviceDay := s.fare.map fun t => serviceDay t.rollover s.minute,
    band := s.fare.map fun t => bandFor t.schedule s.minute }

/-- The reply of `ftstat` (R187). -/
def State.fareTableReport (s : State) : FareTableReport :=
  let l := s.loader
  let held := heldParts l.parts
  let inStage := l.staged.isArmed || l.staged.isArming
  { activeVersion := s.fare.map (·.version), activeEffective := s.fare.map (·.effective), activeBank := l.activeBank,
    stagingBank := l.stagingBank, markPending := l.markPending,
    staged := if l.staged.isArming then .arming else if l.staged.isArmed then .armed
              else if held.contains 0 then .uploading else .empty,
    stagedVersion := if inStage then some l.staged.version else none,
    stagedEffective := if inStage then some l.staged.effective else none, parts := held }

/-- The reply of `dlstat` (R195). -/
def State.denyReport (s : State) : DenyReport :=
  let l := s.loader
  let staged := fun (n : Nat) => if l.load = .idle then none else some n
  { version := s.check.denyVersion, count := s.check.denyList.length, markedBank := l.markedBank, logUse := l.logUse,
    load := l.load, stagedVersion := staged l.listVersion, declared := staged l.listCount,
    received := staged l.list.length }

end Sys2Proof.Machine
end

