-- ==== Sys2Proof/Machine/Payloads.lean ====
section
/-! DEFINITION. Frames and payloads: the bytes that a request's frame carries and how they give its fields, and the bytes
that a reply or a notice goes out in (R196 to R198, R200, R202, R207, section 11.5).

R196 gives the form of a payload: numbers least significant byte first in the sizes of their fields, a presence byte before
a field that may be absent, a count before a list of varying length.  The sizes, the order of a payload's fields and the
codes that no rule gives are log entry 51. -/

namespace Sys2Proof.Machine

/-! ## The payloads of requests (R200 step 3, section 11.5) -/

/-- A payload of fixed fields: it fits when it has exactly their length (R200). -/
def fixedPayload {α : Type} (n : Nat) (fields : List Byte → α) (bs : List Byte) : Payload α :=
  if bs.length = n then .fits (fields bs) else .misfit

/-- The payload of a request that takes nothing. -/
def emptyPayload (bs : List Byte) : Payload Unit := fixedPayload 0 (fun _ => ()) bs

/-- The value that a one-byte code names in a list of values in code order, if it names one. -/
def codeNames {α : Type} (values : List α) (bs : List Byte) : Option α := values[field bs 0 1]?

/-- The values of the one-byte codes, in code order (log entry 51).  The gate modes stand in the order of the start mode codes
of section 11.4 with EMERGENCY after them, which is not the order of R85's list. -/
def modeCodes : List GateMode := [.normal, .manual, .outOfService, .emergency]
def aisleCodes : List AisleDirection := [.entryOnly, .exitOnly, .both]
def directionCodes : List Direction := [.inbound, .outbound]
def leafCodes : List LeafRequest := [.open, .close, .free]

/-- `setid`: a station, a gate and a zone (R173). -/
def identityPayload : List Byte → Payload Identity :=
  fixedPayload 4 fun bs => { station := field bs 0 2, gate := field bs 2 1, zone := field bs 3 1 }

/-- `ldkey`: a slot and a presence byte; behind a presence byte other than 0, a version and a key (R200, R206). -/
def keyPayload (bs : List Byte) : Payload KeyFields :=
  if bs.length < 2 then .misfit
  else if field bs 1 1 = 0 then
    fixedPayload 2 (fun bs => { slot := field bs 0 1, presence := 0, version := 0, key := 0#128 }) bs
  else
    fixedPayload 19 (fun bs => { slot := field bs 0 1, presence := field bs 1 1, version := field bs 2 1,
                                 key := BitVec.ofNat 128 (field bs 3 16) }) bs

/-- `gmode`, `adir`, `grant` and `leaf`: one code (R86, R89, R96, R126). -/
def modePayload : List Byte → Payload (Option GateMode) := fixedPayload 1 (codeNames modeCodes)
def aislePayload : List Byte → Payload (Option AisleDirection) := fixedPayload 1 (codeNames aisleCodes)
def directionPayload : List Byte → Payload (Option Direction) := fixedPayload 1 (codeNames directionCodes)
def leafPayload : List Byte → Payload (Option LeafRequest) := fixedPayload 1 (codeNames leafCodes)

/-- `stime`: a date and time (R137). -/
def timePayload : List Byte → Payload DateTime :=
  fixedPayload 7 fun bs =>
    { year := field bs 0 2, month := field bs 2 1, day := field bs 3 1, hour := field bs 4 1, minute := field bs 5 1,
      second := field bs 6 1 }

/-- `ftpart`: an index and 128 bytes (R181). -/
def partBytes : List Byte → Payload FarePart :=
  fixedPayload 129 fun bs => { index := field bs 0 1, bytes := bs.drop 1 }

/-- `dlbeg`: a version and a count (R188). -/
def loadPayload : List Byte → Payload LoadHeader :=
  fixedPayload 6 fun bs => { version := field bs 0 4, count := field bs 4 2 }

/-- `dlput`: a count and that many entries (R189); the count gives the length (R200). -/
def entriesPayload (bs : List Byte) : Payload (List DenyEntry) :=
  if bs.length < 1 then .misfit
  else
    fixedPayload (1 + 8 * field bs 0 1) (fun bs => (List.range (field bs 0 1)).map fun i =>
      { number := field bs (1 + 8 * i) 7, reason := field bs (8 + 8 * i) 1 }) bs

/-- `dladd` and `dldel`: an expected version and an entry (R193). -/
def addPayload : List Byte → Payload DenyAdd :=
  fixedPayload 12 fun bs => { expected := field bs 0 4, number := field bs 4 7, reason := field bs 11 1 }
def deletePayload : List Byte → Payload DenyDelete :=
  fixedPayload 11 fun bs => { expected := field bs 0 4, number := field bs 4 7 }

/-- `hlread`: a start index (R38).  `hlclr` and `sgread`: a card number or 0 (R39, R49). -/
def indexPayload : List Byte → Payload Nat := fixedPayload 1 fun bs => field bs 0 1
def numberPayload : List Byte → Payload Nat := fixedPayload 7 fun bs => field bs 0 7

/-- `sgnote`: one sighting (R47). -/
def sightingPayload : List Byte → Payload PeerSighting :=
  fixedPayload 21 fun bs =>
    { number := field bs 0 7, counter := field bs 7 2, station := field bs 9 2, gate := field bs 11 1,
      minute := field bs 12 4, direction := codeNames directionCodes (bs.drop 16), seenAt := field bs 17 4 }

/-- `jread`: a start and a count (R157).  `jrel`: a sequence number (R158). -/
def rangePayload : List Byte → Payload JournalRange :=
  fixedPayload 5 fun bs => { start := field bs 0 4, count := field bs 4 1 }
def sequencePayload : List Byte → Payload Nat := fixedPayload 4 fun bs => field bs 0 4

/-- `nmask` and `eclr`: a 32-bit set (R208, R211). -/
def setPayload : List Byte → Payload (BitVec 32) := fixedPayload 4 fun bs => BitVec.ofNat 32 (field bs 0 4)

/-! ## Status codes and notice kinds (R198, R202) -/

/-- The status codes (R202). -/
def Status.code : Status → Nat
  | .done => 0 | .clamped => 1 | .busy => 2 | .starting => 3 | .unknownKind => 4 | .badLength => 5 | .badValue => 6
  | .notInMode => 7 | .locked => 8 | .full => 9 | .notFound => 10 | .version => 11 | .order => 12 | .stale => 13
  | .incomplete => 14 | .badTable => 15 | .aisleBusy => 16

/-- The kind byte of a message (R198). -/
def OutMessage.kind : OutMessage → Byte
  | .reply kind _ _ => kind
  | .nout _ _ _ _ _ => 0x40#8
  | .npas _ _ _ _ => 0x41#8
  | .nsig _ _ _ _ _ => 0x42#8
  | .natt _ => 0x43#8

/-! ## The parts of a payload (R196; log entry 51) -/

/-- A truth value: 1 or 0. -/
def flagByte (b : Bool) : List Byte := [if b then 1#8 else 0#8]

/-- A field that may be absent, behind its presence byte. -/
def present {α : Type} (bytes : α → List Byte) : Option α → List Byte
  | none => [0#8]
  | some a => 1#8 :: bytes a

/-- A list of varying length, behind its count in one byte or in two (R196).  The sizes are log entry 51. -/
def counted {α : Type} (bytes : α → List Byte) (xs : List α) : List Byte := leBytes 1 xs.length ++ xs.flatMap bytes
def countedWide {α : Type} (bytes : α → List Byte) (xs : List α) : List Byte := leBytes 2 xs.length ++ xs.flatMap bytes

/-- A one-byte code: the value's place in the manual's list of the values. -/
def codeByte {α : Type} [DecidableEq α] (values : List α) (a : α) : List Byte := leBytes 1 (values.idxOf a)

/-- A difference of two counts of seconds. -/
def stepBytes (i : Int) : List Byte := leBytes 8 (BitVec.ofInt 64 i).toNat

/-- A 32-bit set. -/
def setBytes (b : BitVec 32) : List Byte := leBytes 4 b.toNat

/-- One byte, two bytes, four bytes of a number. -/
def byte1 (n : Nat) : List Byte := leBytes 1 n
def byte2 (n : Nat) : List Byte := leBytes 2 n
def byte4 (n : Nat) : List Byte := leBytes 4 n

/-- The lists of the values that the manual names, in its order. -/
def lockCodes : List LockState := [.unlocked, .pending, .locked]
def bankCodes : List Bank := [.A, .B]
def stagedCodes : List StagedShown := [.empty, .uploading, .arming, .armed]
def loadCodes : List LoadState := [.idle, .loading, .programming, .staged, .activating]
def criterionCodes : List Criterion := [.auth, .twin, .regression, .diverged]
def caseCodes : List SightingResult := [.own, .aged, .inserted, .replaced, .refreshed, .diverged, .older]
def leafStateCodes : List LeafState := [.free, .closed, .opening, .open, .closing, .braking, .stalled, .heldOpen]
def bridgeCodes : List Bridge := [.off, .driveOpen, .driveClose, .brake]
def causeCodes : List ResetCause := [.powerOn, .supplyDip, .resetLine, .restart]
def sessionCodes : List SessionState :=
  [.closed, .ready, .identifying, .authenticating, .reading, .awaitIntent, .writing, .querying, .holdoff]
def indicatorCodes : List Indicator := [.closed, .stop, .seeStaff, .busy, .go, .wait, .ready]
def phaseCodes : List TrackPhase := [.clear, .inA, .inAB, .inB, .outB, .outBA, .outA]
def sourceCodes : List CreditSource := [.card, .staff]

/-- The codes of `npas`'s credit source, in the order of R101's list (log entry 51). -/
def npasSources : List (Option CreditSource) := [some .card, some .staff, none]

/-- Further codes of the replies and of `nout`, in code order (log entry 51). -/
def creditStateCodes : List CreditState := [.reserved, .active]
def beamCodes : List Beam := [.A, .S, .B]
def opCodes : List OpKind := [.recordProgram, .statusMark, .pageProgram, .sectorErase]

/-- A job's kind, by its place in R166's list of the jobs. -/
def JobKind.code : JobKind → Nat
  | .control .identity => 0 | .control .key => 1 | .control .settings => 2 | .lockEntry => 3 | .deltaSlot _ _ => 4
  | .hotRewrite _ => 5 | .arm _ => 6 | .fareMark _ _ => 7 | .withdrawal _ => 8 | .denyBank _ => 9 | .denyMark _ _ => 10
  | .logErase => 11

/-! ## The data of replies (sections 11.4 to 11.8 and the owning rules) -/

/-- A station identity. -/
def Identity.bytes (i : Identity) : List Byte := byte2 i.station ++ byte1 i.gate ++ byte1 i.zone

/-- A gate stamp. -/
def Stamp.bytes (x : Stamp) : List Byte := byte2 x.station ++ byte1 x.gate ++ byte4 x.minute

/-- A sighting's fields, as `nsig` and `sgnote` give them (R43, R47). -/
def sightingBytes (number counter : Nat) (stamp : Stamp) (d : Direction) (seenAt : Nat) : List Byte :=
  leBytes 7 number ++ byte2 counter ++ stamp.bytes ++ codeByte directionCodes d ++ byte4 seenAt

/-- The reply of `ident` (R205). -/
def IdentReport.bytes (r : IdentReport) : List Byte :=
  byte2 r.part ++ byte1 r.revision ++ present byte1 r.scanStep ++ present Identity.bytes r.identity ++ flagByte r.stored ++
  codeByte lockCodes r.lock

/-- An item of `rparm`: the value in force, and the pending value when there is one (R204).  Its place in the list says which
identifier it is for (log entry 67). -/
def SettingItem.bytes (x : SettingItem) : List Byte := byte4 x.inForce ++ present byte4 x.pending

/-- A date and time. -/
def DateTime.bytes (d : DateTime) : List Byte :=
  byte2 d.year ++ byte1 d.month ++ byte1 d.day ++ byte1 d.hour ++ byte1 d.minute ++ byte1 d.second

/-- The reply of `rtime` (R139). -/
def TimeReport.bytes (r : TimeReport) : List Byte :=
  flagByte r.valid ++ flagByte r.atLimit ++ byte4 r.seconds ++ byte4 r.minute ++ DateTime.bytes r.calendar ++
  byte1 r.weekday ++ present byte2 r.serviceDay ++ present byte1 r.band

/-- The reply of `ftstat` (R187). -/
def FareTableReport.bytes (r : FareTableReport) : List Byte :=
  present byte4 r.activeVersion ++ present byte4 r.activeEffective ++ present (codeByte bankCodes) r.activeBank ++
  codeByte bankCodes r.stagingBank ++ flagByte r.markPending ++ codeByte stagedCodes r.staged ++
  present byte4 r.stagedVersion ++ present byte4 r.stagedEffective ++ counted byte1 r.parts

/-- The reply of `dlstat` (R195). -/
def DenyReport.bytes (r : DenyReport) : List Byte :=
  byte4 r.version ++ byte2 r.count ++ present (codeByte bankCodes) r.markedBank ++ byte2 r.logUse ++
  codeByte loadCodes r.load ++ present byte4 r.stagedVersion ++ present byte2 r.declared ++ present byte2 r.received

/-- An entry of `hlread` (R38).  That presentations-since takes two bytes is log entry 51. -/
def HotEntry.bytes (e : HotEntry) : List Byte :=
  leBytes 7 e.number ++ codeByte criterionCodes e.criterion ++ byte4 e.minute ++ byte2 e.since

/-- The entry of `sgread` (R49). -/
def Sighting.bytes (e : Sighting) : List Byte :=
  sightingBytes e.number e.counter e.stamp e.direction e.seenAt ++ flagByte (decide (e.source = .peer))

/-- An item of `jread` (R157). -/
def JournalItem.bytes : JournalItem → List Byte
  | .record bs unverified => 0#8 :: bs ++ flagByte unverified
  | .damaged seq => [1#8, RecordStatus.damaged.code] ++ byte4 seq

/-- A credit (R92). -/
def Credit.bytes (c : Credit) : List Byte :=
  codeByte directionCodes c.direction ++ codeByte sourceCodes c.source ++ codeByte creditStateCodes c.state ++
  present byte4 c.seq ++ present (fun r => byte1 (Reader.code r)) c.reader

/-- A leaf's record (R112). -/
def LeafReport.bytes (r : LeafReport) : List Byte :=
  codeByte leafStateCodes r.state ++ codeByte bridgeCodes r.bridge ++ byte1 r.count ++ flagByte r.openSwitch ++
  flagByte r.closedSwitch ++ byte2 r.mean ++ flagByte r.reopenRuns ++ byte2 r.lastOpen ++ byte2 r.lastClose

/-- The session state and the indicator code of a reader. -/
def readerBytes (q : SessionState × Indicator) : List Byte := codeByte sessionCodes q.1 ++ codeByte indicatorCodes q.2

/-- The reply of `stat` (R212), item by item.  A next sequence number above 4,294,967,295 leaves its low four bytes here (log
entry 58).  The count of the waiting jobs takes two bytes, since 256 delta slot jobs can wait (R194). -/
def StatusReport.bytes (r : StatusReport) : List Byte :=
  (codeByte causeCodes r.cause ++ present byte1 r.scanStep) ++
  (setBytes r.events ++ setBytes r.mask ++ byte2 r.discarded ++ byte2 r.dropped ++ byte1 r.inputFrames) ++
  (present Identity.bytes r.identity ++ flagByte r.identityStored ++ codeByte lockCodes r.lock ++ byte1 r.lockSpent) ++
  (present byte1 r.key0 ++ present byte1 r.key1) ++
  (readerBytes r.readerU ++ readerBytes r.readerP) ++
  (codeByte modeCodes r.mode ++ codeByte modeCodes r.returnMode ++ flagByte r.hostEmergency ++ flagByte r.emergencyLine) ++
  (present (codeByte directionCodes) r.claim ++ counted Credit.bytes r.credits ++ codeByte phaseCodes r.trackPhase ++
   byte4 r.inboundCount ++ byte4 r.outboundCount ++ byte4 r.unpaidCount ++ counted (codeByte beamCodes) r.stuckBeams) ++
  (LeafReport.bytes r.left ++ LeafReport.bytes r.right) ++
  flagByte r.clockValid ++ byte1 r.recoveryCount ++
  (byte2 r.freePositions ++ byte2 r.unreleased ++ byte4 r.nextSeq ++ byte4 r.floor ++ byte1 r.stagingEntries ++
   byte1 r.reservations ++ byte1 r.freeEntries) ++
  (present (codeByte opCodes) r.opInProgress ++ flagByte r.suspended ++ countedWide (fun k => byte1 (JobKind.code k)) r.jobsWaiting ++
   byte2 r.faultCount ++ present (fun q => codeByte opCodes q.1 ++ byte4 q.2) r.latestFault)

/-- What a reply carries behind its status.  The items of `rparm` are always 29 and in order, so no count stands before them and
no identifier in them (R196, R204; DEDUCED, log entry 67); a set of part indices goes out as a counted list of the indices in it
(log entry 68). -/
def ReplyData.bytes : ReplyData → List Byte
  | .none => []
  | .ident r => r.bytes
  | .keyVersions a b => present byte1 a ++ present byte1 b
  | .storedValues pairs => counted (fun q => byte1 q.1 ++ byte4 q.2) pairs
  | .settings items d p => items.flatMap SettingItem.bytes ++ codeByte aisleCodes d ++ present (codeByte aisleCodes) p
  | .sequence seq => byte4 seq
  | .leafStates l r => codeByte leafStateCodes l ++ codeByte leafStateCodes r
  | .leavesCleared n l r => byte1 n ++ codeByte leafStateCodes l ++ codeByte leafStateCodes r
  | .badField i => byte1 i
  | .timeSet seconds minute old valid step =>
    byte4 seconds ++ byte4 minute ++ byte4 old ++ flagByte valid ++ present stepBytes step
  | .aligned seconds minute step => byte4 seconds ++ byte4 minute ++ stepBytes step
  | .time r => r.bytes
  | .parts held => counted byte1 held
  | .missing indices => counted byte1 indices
  | .offset o => byte2 o
  | .version v => byte4 v
  | .fareTable r => r.bytes
  | .count n => byte2 n
  | .deltaTaken v slot => byte4 v ++ byte2 slot
  | .deny r => r.bytes
  | .hotList n entries => byte1 n ++ counted HotEntry.bytes entries
  | .sightingCase r => codeByte caseCodes r
  | .sighting e age n => e.bytes ++ byte4 age ++ byte2 n
  | .journal items unreleased newest => counted JournalItem.bytes items ++ byte2 unreleased ++ byte4 newest
  | .released n oldest => byte2 n ++ byte4 oldest
  | .maskAndEvents mask set => setBytes mask ++ setBytes set
  | .events set => setBytes set
  | .status r => r.bytes

/-! ## Messages and frames on the line (R196, R207, R209) -/

/-- The payload of a message: in a reply, its first byte is the status code (R196); the notices carry their owners' fields
(R23, R43, R101), and `natt` the event set as it stood when its transmission began (R209). -/
def OutMessage.payload : OutMessage → List Byte
  | .reply _ status data => byte1 status.code ++ data.bytes
  | .nout reader number outcome charge balance =>
    byte1 (Reader.code reader) ++ leBytes 7 number ++ byte1 outcome.code ++ byte2 charge ++ present signedBytes balance
  | .npas d source seq occlusion =>
    codeByte directionCodes d ++ codeByte npasSources source ++ present byte4 seq ++
    byte2 occlusion
  | .nsig number counter stamp d seenAt => sightingBytes number counter stamp d seenAt
  | .natt set => setBytes (set.getD 0#32)

/-- The sync byte. -/
def syncByte : Byte := 0xC3#8

/-- The bytes of a frame on the line: the sync byte, the length, the kind, the payload, the check (R196, R197). -/
def Frame.onLine (f : Frame) : List Byte :=
  syncByte :: withCrc16 (leBytes 2 (1 + f.payload.length) ++ f.kind :: f.payload)

/-- The frame of a message (R196). -/
def OutMessage.frame (m : OutMessage) : Frame := { kind := m.kind, payload := m.payload }

/-- What the transmitter is sending: the frame of the output queue's oldest message, while the link runs (R196). -/
def State.transmitted (s : State) : List Byte :=
  if s.phase.linkRuns then (match s.link.output with | [] => [] | m :: _ => m.frame.onLine) else []

end Sys2Proof.Machine
end

