-- ==== Sys2Proof/Machine/Ops.lean ====
section
/-! DEFINITION. The operations that the commands' meanings share: time passing, answers to outstanding exchanges, the
kinds of the requests.

A command that cannot occur in the state it meets (a timer that does not run, an answer to no exchange, a condition that
does not hold) leaves the state as it is (log entry 11). -/

namespace Sys2Proof.Machine

/-- The outcome of a command. -/
abbrev Answer := Host.Outcome State Fault Refusal

/-- Time passes to a moment that a timer named (R141).  Log entry 28. -/
def State.reach (d : Nat) (s : State) : State := { s with now := max s.now d }

/-- A timer that runs runs out: time reaches its deadline, and then its owner acts. -/
def State.onExpiry (timer : Timer) (act : State → State) (s : State) : State :=
  match timer with
  | some d => act (s.reach d)
  | none => s

/-- Nothing but the reset events, the supplies, the clock and the raw levels reach a 520 that does not run. -/
def State.whileRunning (act : State → State) (s : State) : State := if s.phase = .running then act s else s

/-- A timer of a block that runs in service only; every reset kind stops it (R141). -/
def State.onServiceExpiry (timer : Timer) (act : State → State) (s : State) : State :=
  s.whileRunning fun s => s.onExpiry timer act

/-- A front-end's report is followed from the end of the reset on (R2). -/
def State.whileLinkRuns (act : State → State) (s : State) : State := if s.phase.linkRuns then act s else s

/-- An answer at a link is taken when the exchange it answers is outstanding; any other answer is discarded (R3). -/
def State.onAnswer (l : Link) (fits : Exchange → Bool) (act : Reader → Exchange → State → State) (s : State) : State :=
  s.whileRunning fun s =>
    let r := s.readerAt l
    match (s.session r).exchange with
    | some e => if fits e then act r e s else s
    | none => s

/-- The card of a session, as IDENTIFY gave it (R6). -/
def State.card (s : State) (r : Reader) : CardId := (s.session r).card.getD default

/-- Which exchange an answer answers (R4). -/
def Exchange.isIdentify : Exchange → Bool
  | .identify => true
  | _ => false
def Exchange.isAuthenticate : Exchange → Bool
  | .authenticate _ => true
  | _ => false
def Exchange.isRead : Exchange → Bool
  | .read => true
  | _ => false
def Exchange.isWrite : Exchange → Bool
  | .write _ _ => true
  | _ => false
def Exchange.isBlock : Exchange → Bool
  | .block _ => true
  | _ => false
def Exchange.isQuery : Exchange → Bool
  | .query => true
  | _ => false

/-- Both readers are CLOSED (R1, R173). -/
def State.bothClosed (s : State) : Bool :=
  decide ((s.session .U).state = .closed) && decide ((s.session .P).state = .closed)

/-- A refusal: the status alone. -/
def State.answer (kind : Byte) (st : Status) (s : State) : State := s.reply kind st .none

end Sys2Proof.Machine
end

