-- ==== Sys2Proof/Machine/EventsAisle.lean ====
section
/-! DEFINITION. The sensors, the credits' and the passage's timers, and pending settings (chapter 5). -/

namespace Sys2Proof.Machine

/-! ## Raw and filtered changes (R85, R97, R98, R113) -/

/-- The change of a raw level, with the filters that run: beams while the 520 is in service, the others from the end of
the reset on (R85, R97, R113). -/
def State.rawChange (x : Sensor) (level : Bool) (s : State) : State :=
  let f := s.settings.inForce.sensorFilter
  match x with
  | .beam b =>
    let m := s.aisle.beam b
    { s with aisle := s.aisle.setBeam b { m with line := m.line.rawChange s.now f level (decide (s.phase = .running)) } }
  | .endSwitch side e =>
    let l := s.drive.leaf side
    { s with drive := s.drive.setLeaf side (l.setSwitch e ((l.switch e).rawChange s.now f level s.phase.linkRuns)) }
  | .emergencyLine =>
    { s with aisle := { s.aisle with
        emergencyLine := s.aisle.emergencyLine.rawChange s.now f level s.phase.linkRuns } }

/-- SENSOR_RAW_CHANGE, at the moment that it names. -/
def execSensorRawChange (at_ : Nat) (x : Sensor) (level : Bool) (s : State) : Answer :=
  .next ((s.reach at_).rawChange x level)

/-- The emergency line's new level is taken; the mode follows it once the scan has ended (R85, R88). -/
def State.takeLine (s : State) : State :=
  let t := { s with aisle := { s.aisle with emergencyLine := s.aisle.emergencyLine.take } }
  if t.phase = .running then t.followMode.startStore else t

/-- EMERGENCY_LINE_FILTERED_CHANGE. -/
def execEmergencyLineFilteredChange (s : State) : Answer :=
  .next (s.onExpiry s.aisle.emergencyLine.timer State.takeLine)

/-- A beam's new level is taken: the stuck measures, then the tracker for A and B, the leaves and the target for S. -/
def State.beamChanged (b : Beam) (s : State) : State :=
  let blocked := (s.aisle.beam b).line.raw
  let t := { s with aisle := s.aisle.takeBeam b s.now s.settings.inForce.stuckLimit }
  match b with
  | .A => (t.track true blocked).startStore
  | .B => (t.track false blocked).startStore
  | .S => t.safetyBeam blocked

/-- BEAM_FILTERED_CHANGE. -/
def execBeamFilteredChange (b : Beam) (s : State) : Answer :=
  .next (s.onServiceExpiry (s.aisle.beam b).line.timer (State.beamChanged b))

/-! ## Timers (R95, R102 to R104) -/

/-- CREDIT_EXPIRY: the window timer runs out, and the oldest ACTIVE credit expires (R95). -/
def execCreditExpiry (s : State) : Answer :=
  .next (s.whileRunning fun s =>
    match s.aisle.window, s.aisle.oldestActive with
    | .running d, some c => ((s.reach d).expireCredit c).startStore
    | _, _ => s)

/-- CLOSE_DELAY_EXPIRY (R104). -/
def execCloseDelayExpiry (s : State) : Answer :=
  .next (s.onServiceExpiry s.aisle.closeDelay fun s => ({ s with aisle := { s.aisle with closeDelay := none } }).retarget false)

/-- LOITER (R102).  Log entry 29. -/
def execLoiter (s : State) : Answer :=
  .next (s.onServiceExpiry s.aisle.passageLimit fun s =>
    ({ s with aisle := { s.aisle with passageLimit := none } }).raise .loiter)

/-- BEAM_STUCK: the beam becomes stuck; the flag is set when it is the first (R103, R210).  Log entry 32. -/
def execBeamStuck (b : Beam) (s : State) : Answer :=
  .next (s.onServiceExpiry (s.aisle.beam b).measure fun s =>
    ({ s with aisle := s.aisle.setBeam b { s.aisle.beam b with stuck := true, measure := none } }).raiseIf
      (!s.levelHolds .beamStuck) .beamStuck)

/-! ## Pending settings (R106) -/

/-- PENDING_SETTINGS_TAKE_EFFECT. -/
def execPendingSettingsTakeEffect (s : State) : Answer := .next (s.whileRunning fun s => s.applyPending.startStore)

end Sys2Proof.Machine
end

