-- ==== Sys2Proof/Machine/EventsCards.lean ====
section
/-! DEFINITION. The front-ends' reports, the cards' answers, and the sessions' own steps (chapter 1). -/

namespace Sys2Proof.Machine

/-! ## Reports (R2) -/

/-- CARD_PRESENT: DONE_CARD at a CLOSED reader, NEW_CARD otherwise; a HOLDOFF may end (R2, R20). -/
def execCardPresent (l : Link) (s : State) : Answer :=
  .next (s.whileLinkRuns fun s =>
    let r := s.readerAt l
    let p := if (s.session r).state = .closed then Presence.doneCard else .newCard
    ({ s with cards := s.cards.setPresence l p }).endHoldoff r)

/-- The presence condition after a COLLISION (R2). -/
def Presence.collided : Presence → Presence
  | .noCard | .multiple => .multiple
  | .newCard => .newCard
  | .doneCard => .doneCard

/-- COLLISION: a READY reader shows STOP for the outcome display time (R2, R9). -/
def execCollision (l : Link) (s : State) : Answer :=
  .next (s.whileLinkRuns fun s =>
    let t := { s with cards := s.cards.setPresence l (s.cards.presence l).collided }
    t.onSession (s.readerAt l) fun x =>
      if x.state = .ready then { x with collision := some (s.now + displayTime) } else x)

/-- CARD_REMOVED (R2, R3, R11, R16 to R20). -/
def execCardRemoved (l : Link) (s : State) : Answer :=
  .next (s.whileLinkRuns fun s =>
    let t := { s with cards := (s.cards.setPresence l .noCard).setInSession l none }
    (t.removedFrom (s.readerAt l)).startStore)

/-! ## The session's start (R9) -/

/-- A session may start (R9). -/
def State.mayStart (s : State) (r : Reader) : Bool :=
  decide (s.phase = .running) && decide ((s.session r).state = .ready) && !s.paused r &&
  decide (s.cards.presence (s.linkOf r) = .newCard)

/-- A session starts: IDENTIFY is sent, or, at reader U in EMERGENCY, it ends at once (R9).  Log entry 13. -/
def State.startSession (r : Reader) (s : State) : State :=
  let t := ({ s with cards := s.cards.setPresence (s.linkOf r) .doneCard }).onSession r fun x =>
    { Session.initial with state := .identifying, collision := x.collision }
  if s.aisle.mode = .emergency ∧ r = .U then t.endSession r .emergency else t.send r .identify

/-- SESSION_START. -/
def execSessionStart (r : Reader) (s : State) : Answer := .next (if s.mayStart r then s.startSession r else s)

/-! ## Answers (R3, R10, R12, R13, R17 to R19) -/

/-- IDENTIFY_ANSWER. -/
def execIdentifyAnswer (l : Link) (card : CardId) (s : State) : Answer :=
  .next (s.onAnswer l Exchange.isIdentify fun r _ s => (s.identified l r card).startStore)

/-- The comparison of a response, or the twin mark's end (R11, R12, R30, R31). -/
def State.responseTaken (r : Reader) (e : Exchange) (response : BitVec 64) (s : State) : State :=
  let card := s.card r
  let t := s.onSession r fun x => { x with exchange := none, answerWindow := none }
  if (s.session r).twin then t.twinEnd r
  else
    match e, s.check.keyFor card.keyVersion with
    | .authenticate c, some k =>
      if response = expectedResponse k.key card c then t.authenticated r else t.mismatched r card
    | _, _ => t.mismatched r card

/-- AUTHENTICATE_ANSWER. -/
def execAuthenticateAnswer (l : Link) (response : BitVec 64) (s : State) : Answer :=
  .next (s.onAnswer l Exchange.isAuthenticate fun r e s => (s.responseTaken r e response).startStore)

/-- READ_ANSWER. -/
def execReadAnswer (l : Link) (image : List Byte) (s : State) : Answer :=
  .next (s.onAnswer l Exchange.isRead fun r _ s => (s.readTaken r (s.card r) image).startStore)

/-- WRITE_ANSWER. -/
def execWriteAnswer (l : Link) (reply : WriteReply) (s : State) : Answer :=
  .next (s.onAnswer l Exchange.isWrite fun r _ s => (s.writeAnswered r reply).startStore)

/-- BLOCK_ANSWER. -/
def execBlockAnswer (l : Link) (reply : WriteReply) (s : State) : Answer :=
  .next (s.onAnswer l Exchange.isBlock fun r _ s => (s.writeAnswered r reply).startStore)

/-- QUERY_ANSWER. -/
def execQueryAnswer (l : Link) (counter : Nat) (s : State) : Answer :=
  .next (s.onAnswer l Exchange.isQuery fun r _ s => (s.queryAnswered r counter).startStore)

/-! ## The waiting line (R16, R22, R83, R151) -/

/-- The oldest member of the waiting line leaves it. -/
def Journal.popWaiting (j : Journal) : Journal := { j with waiting := j.waiting.tail }

/-- INTENT_ENTERS_STAGING: the session's intent is the oldest of the waiting line and two entries are free. -/
def execIntentEntersStaging (r : Reader) (s : State) : Answer :=
  .next (s.whileRunning fun s =>
    match s.journal.waiting, (s.session r).intent with
    | { reader := q, item := .intent } :: _, some rec =>
      if q = r ∧ s.journal.room 2 = true then
        (({ s with journal := s.journal.popWaiting }).enterIntent r rec).startStore
      else s
    | _, _ => s)

/-- PENDING_RECORD_ENTERS_STAGING: a record of the session's slot is the oldest of the line and an entry is free; an
emptied slot may end HOLDOFF. -/
def execPendingRecordEntersStaging (r : Reader) (s : State) : Answer :=
  .next (s.whileRunning fun s =>
    match s.journal.waiting with
    | { reader := q, item := .record rec } :: _ =>
      if q = r ∧ s.journal.room 1 = true then
        ((({ s with journal := s.journal.popWaiting }).enterRecord rec .single).endHoldoff r).startStore
      else s
    | _ => s)

/-! ## Timers (R3, R9, R20, R75) -/

/-- ANSWER_WINDOW_EXPIRY. -/
def execAnswerWindowExpiry (r : Reader) (s : State) : Answer :=
  .next (s.onServiceExpiry (s.session r).answerWindow fun s =>
    match (s.session r).exchange with
    | some e => (s.windowRan r e).startStore
    | none => s)

/-- The STOP after a COLLISION runs out before the outcome's display (R9). -/
def Session.collisionFirst (x : Session) : Bool :=
  match x.collision, x.display with
  | some c, some d => decide (c ≤ d)
  | some _, none => true
  | none, _ => false

/-- OUTCOME_DISPLAY_EXPIRY: the earlier of the reader's two display times has run (R9, R20). -/
def execOutcomeDisplayExpiry (r : Reader) (s : State) : Answer :=
  .next
    (if (s.session r).collisionFirst then
       s.onServiceExpiry (s.session r).collision fun s => s.onSession r fun x => { x with collision := none }
     else
       s.onServiceExpiry (s.session r).display fun s => (s.onSession r fun x => { x with display := none }).endHoldoff r)

/-- The entries held with their UNCERTAIN marks (R74). -/
def Journal.heldEntries (j : Journal) : List RecoveryEntry :=
  j.staging.filterMap fun e =>
    match e with
    | .mark _ _ prepared => prepared
    | _ => none

/-- The honour deadlines ahead of a card number's entries, those in the list and those held with a mark (R74, R75). -/
def State.honourDeadlines (number : Nat) (s : State) : List Nat :=
  (((s.recovery ++ s.journal.heldEntries).filter fun e => e.number == number).map (·.honourDeadline)).filter
    fun d => decide (s.now < d)

/-- HONOUR_WINDOW_EXPIRY: time reaches the next honour deadline of the card number, which changes nothing else (R75). -/
def execHonourWindowExpiry (number : Nat) (s : State) : Answer :=
  .next
    (match (s.honourDeadlines number).min? with
     | some d => s.reach d
     | none => s)

end Sys2Proof.Machine
end

