-- ==== Sys2Proof/Machine/EventsDrive.lean ====
section
/-! DEFINITION. The leaves' end switches, timers and samples (chapter 6). -/

namespace Sys2Proof.Machine

/-- The filtered change of an end switch is taken; the leaf acts on it once the scan has ended (R113, R131). -/
def State.switchChanged (side : LeafSide) (e : LeafEnd) (s : State) : State :=
  let l := s.drive.leaf side
  let t := { s with drive := s.drive.setLeaf side (l.setSwitch e (l.switch e).take) }
  if t.phase = .running then t.moveLeaf side fun v l => l.onSwitch v e else t

/-- END_SWITCH_FILTERED_CHANGE. -/
def execEndSwitchFilteredChange (side : LeafSide) (e : LeafEnd) (s : State) : Answer :=
  .next (s.onExpiry ((s.drive.leaf side).switch e).timer (State.switchChanged side e))

/-- DEADTIME_EXPIRY (R110, R117). -/
def execDeadtimeExpiry (side : LeafSide) (s : State) : Answer :=
  .next (s.onServiceExpiry (s.drive.leaf side).deadtime fun s => s.moveLeaf side fun v l => l.onDeadtime v)

/-- BRAKE_INTERVAL_EXPIRY (R117). -/
def execBrakeIntervalExpiry (side : LeafSide) (s : State) : Answer :=
  .next (s.onServiceExpiry (s.drive.leaf side).brake fun s => s.moveLeaf side fun v l => (l.onBrake v).quiet)

/-- MOTION_LIMIT_EXPIRY: the leaf is stopped with action STALL (R119). -/
def execMotionLimitExpiry (side : LeafSide) (s : State) : Answer :=
  .next (s.onServiceExpiry (s.drive.leaf side).motionLimit fun s => s.moveLeaf side fun v l => (l.onMotionLimit v).quiet)

/-- INRUSH_BLANKING_EXPIRY: samples enter the window from now on (R121). -/
def execInrushBlankingExpiry (side : LeafSide) (s : State) : Answer :=
  .next (s.onServiceExpiry (s.drive.leaf side).blanking fun s =>
    s.moveLeaf side fun _ l => ({ l with blanking := none } : Leaf).quiet)

/-- CURRENT_SAMPLE: the sampling period has run in a drive state (R121, R122). -/
def execCurrentSample (side : LeafSide) (milliamps : Nat) (s : State) : Answer :=
  .next (s.onServiceExpiry (s.drive.leaf side).sampling fun s => s.moveLeaf side fun v l => (l.onSample v milliamps).quiet)

/-- REOPEN_HOLD_EXPIRY (R124, R128). -/
def execReopenHoldExpiry (side : LeafSide) (s : State) : Answer :=
  .next (s.onServiceExpiry (s.drive.leaf side).reopen fun s => s.moveLeaf side fun v l => l.onReopen v)

end Sys2Proof.Machine
end

