-- ==== Sys2Proof/Machine/EventsReset.lean ====
section
/-! DEFINITION. Supplies and resets, the start-up scan's ends, the supply warning and the clock's ticks (chapters 7 and 9,
section 11.8). -/

namespace Sys2Proof.Machine

/-- POWER_ON: the main supply rises from absent (R213). -/
def execPowerOn (s : State) : Answer := .next (if s.phase = .off then s.beginReset .powerOn else s)

/-- SUPPLY_DIP (R213). -/
def execSupplyDip (s : State) : Answer := .next (if s.phase = .off then s else s.beginReset .supplyDip)

/-- RESET_LINE (R213). -/
def execResetLine (s : State) : Answer := .next (if s.phase = .off then s else s.beginReset .resetLine)

/-- RESET_END (R135, R177). -/
def execResetEnd (s : State) : Answer := .next (if s.phase = .inReset then s.endReset else s)

/-- START_UP_SCAN_STEP_END: steps 1 to 6 (R177). -/
def execStartUpScanStepEnd (s : State) : Answer :=
  .next (if s.phase = .scanning ∧ s.scanStep < 7 then s.scanStepDone else s)

/-- START_UP_SCAN_END: step 7, once the scan's programs have ended (R177). -/
def execStartUpScanEnd (s : State) : Answer :=
  .next (if s.phase = .scanning ∧ s.scanStep = 7 ∧ s.scanWork = [] ∧ s.store.op = none then s.endScan else s)

/-- SCAN_PROGRAM_COMPLETE (R160, R176, R177). -/
def execScanProgramComplete (ok : Bool) (s : State) : Answer := .next (s.completeOwned ok fun o => decide (o = .scan))

/-- MAIN_SUPPLY_LOSS: the operation in progress is torn and RAM is lost (R169).  Log entry 14. -/
def execMainSupplyLoss (s : State) : Answer :=
  .next (if s.phase = .off then s else { s.beginReset .powerOn with phase := .off })

/-- The clock's contents are lost: the count and the validity flag are free values (R135; log entry 4). -/
def State.loseClock (s : State) : State :=
  { s with free := s.free + 1,
           clock := { s.clock with loss := true, seconds := Config.freeSeconds s.free % (clockLimit + 1),
                                   valid := Config.freeFlag s.free } }

/-- A running 520 whose clock has become INVALID (R7, R24, R135). -/
def State.clockFailed (s : State) : State :=
  if s.clock.valid then s
  else (((s.raise .clockInvalid).interrupt false .U).interrupt false .P).followReaders

/-- BACKUP_SUPPLY_LOSS (R135). -/
def execBackupSupplyLoss (s : State) : Answer :=
  .next (if s.phase = .running ∧ s.clock.valid = true then s.loseClock.clockFailed else s.loseClock.followReaders)

/-- SUPPLY_WARNING_START (R168). -/
def execSupplyWarningStart (s : State) : Answer := .next (if s.supplyWarning then s else s.startWarning)

/-- SUPPLY_WARNING_END (R168). -/
def execSupplyWarningEnd (s : State) : Answer := .next (if s.supplyWarning then s.endWarning else s)

/-- The count after a second boundary (R132, R136).  Log entry 27. -/
def Clock.tick (c : Clock) : Clock :=
  { c with seconds := if c.seconds < clockLimit then c.seconds + 1 else c.seconds, boundary := c.boundary + 1000000 }

/-- SECOND_TICK: the count rises, and an advance of the fare minute is taken by the Recovery List and tests the ARMED table
(R77, R134, R185).  A domain that has lost its supply counts nothing until a reset has tested it (log entry 4). -/
def execSecondTick (s : State) : Answer :=
  .next
    (if s.clock.loss && !s.phase.linkRuns then s
     else
       let t := s.reach s.clock.boundary
       let u := { t with clock := t.clock.tick }
       if u.minute = s.minute then u else u.testLifetimes.testDue.startStore)

end Sys2Proof.Machine
end

