-- ==== Sys2Proof/Machine/EventsStore.lean ====
section
/-! DEFINITION. The store's completion events, and the Table Loader's own steps (chapters 8, 9 and 10). -/

namespace Sys2Proof.Machine

/-- FARE_TABLE_ACTIVATION: the test of R185 is made, and an ARMED table that falls due is activated in the same step (R186).
Log entry 52. -/
def execFareTableActivation (s : State) : Answer :=
  .next (s.whileRunning fun s => if s.fareDue then s.activateFare.startStore else s)

/-- DENY_LIST_LOAD_TEST: a STAGED load at a session boundary (R191). -/
def execDenyListLoadTest (s : State) : Answer :=
  .next (s.whileRunning fun s => if s.loadDue then s.testLoad.startStore else s)

/-- STORE_OPERATION_TIMEOUT: the operation has not ended within its maximum time and is reported failed verify (R164). -/
def execStoreOperationTimeout (s : State) : Answer :=
  .next
    (match s.runningOp with
     | some op => s.onExpiry op.deadline (State.completeOp false op)
     | none => s)

/-- JOURNAL_OPERATION_COMPLETE (R152). -/
def execJournalOperationComplete (ok : Bool) (s : State) : Answer :=
  .next (s.completeOwned ok fun o => decide (o = .staging))

/-- FLOOR_PROGRAM_COMPLETE: the floor program and the operations of the refresh it needs (R154, R172). -/
def execFloorProgramComplete (ok : Bool) (s : State) : Answer :=
  .next (s.completeOwned ok fun o => decide (o = .floorWrite))

/-- An owner that is a journal sector erase. -/
def OpOwner.isJournalErase : OpOwner → Bool
  | .journalErase _ => true
  | _ => false

/-- JOURNAL_SECTOR_ERASE_COMPLETE (R159). -/
def execJournalSectorEraseComplete (ok : Bool) (s : State) : Answer := .next (s.completeOwned ok OpOwner.isJournalErase)

/-- HOT_LIST_REWRITE_COMPLETE (R36). -/
def execHotListRewriteComplete (ok : Bool) (s : State) : Answer := .next (s.completeJobOp ok JobKind.isRewrite)

/-- The kinds of the other jobs. -/
def JobKind.isControl : JobKind → Bool
  | .control _ => true
  | _ => false
def JobKind.isLock : JobKind → Bool
  | .lockEntry => true
  | _ => false
def JobKind.isDelta : JobKind → Bool
  | .deltaSlot _ _ => true
  | _ => false
def JobKind.isArm : JobKind → Bool
  | .arm _ => true
  | _ => false
def JobKind.isFareMark : JobKind → Bool
  | .fareMark _ _ => true
  | _ => false
def JobKind.isWithdrawal : JobKind → Bool
  | .withdrawal _ => true
  | _ => false
def JobKind.isDenyBank : JobKind → Bool
  | .denyBank _ => true
  | _ => false
def JobKind.isDenyMark : JobKind → Bool
  | .denyMark _ _ => true
  | _ => false
def JobKind.isLogErase : JobKind → Bool
  | .logErase => true
  | _ => false

/-- CONTROL_RECORD_WRITE_COMPLETE (R171, R172). -/
def execControlRecordWriteComplete (ok : Bool) (s : State) : Answer := .next (s.completeJobOp ok JobKind.isControl)

/-- LOCK_ENTRY_PROGRAM_COMPLETE (R174). -/
def execLockEntryProgramComplete (ok : Bool) (s : State) : Answer := .next (s.completeJobOp ok JobKind.isLock)

/-- DELTA_SLOT_PROGRAM_COMPLETE (R194). -/
def execDeltaSlotProgramComplete (ok : Bool) (s : State) : Answer := .next (s.completeJobOp ok JobKind.isDelta)

/-- ARM_JOB_OPERATION_COMPLETE (R183). -/
def execArmJobOperationComplete (ok : Bool) (s : State) : Answer := .next (s.completeJobOp ok JobKind.isArm)

/-- FARE_MARK_JOB_COMPLETE (R186). -/
def execFareMarkJobComplete (ok : Bool) (s : State) : Answer := .next (s.completeJobOp ok JobKind.isFareMark)

/-- WITHDRAWAL_COMPLETE (R184). -/
def execWithdrawalComplete (ok : Bool) (s : State) : Answer := .next (s.completeJobOp ok JobKind.isWithdrawal)

/-- BANK_JOB_OPERATION_COMPLETE (R190). -/
def execBankJobOperationComplete (ok : Bool) (s : State) : Answer := .next (s.completeJobOp ok JobKind.isDenyBank)

/-- DENY_MARK_JOB_COMPLETE (R192). -/
def execDenyMarkJobComplete (ok : Bool) (s : State) : Answer := .next (s.completeJobOp ok JobKind.isDenyMark)

/-- LOG_ERASE_COMPLETE (R192). -/
def execLogEraseComplete (ok : Bool) (s : State) : Answer := .next (s.completeJobOp ok JobKind.isLogErase)

end Sys2Proof.Machine
end

