-- ==== Sys2Proof/Machine/RequestsAisle.lean ====
section
/-! DEFINITION. Modes and aisle: `gmode`, `adir`, `grant`, `leaf`, `lclr` (chapters 5 and 6). -/

namespace Sys2Proof.Machine

/-! ## `gmode` (R86) -/

/-- What a `gmode` asks of the host emergency request and the return mode. -/
def Aisle.askMode (a : Aisle) (m : GateMode) : Aisle :=
  if m = .emergency then { a with hostEmergency := true } else { a with returnMode := m, hostEmergency := false }

/-- The rule of `gmode`. -/
def decideSetGateMode (m : Option GateMode) (s : State) : State :=
  match m with
  | none => s.answer 7 .badValue
  | some m => ({ s.answer 7 .done with aisle := s.aisle.askMode m }).followMode.startStore

/-- SET_GATE_MODE. -/
def execSetGateMode (p : Payload (Option GateMode)) (s : State) : Answer :=
  .next (takeRequest 7 modePayload p decideSetGateMode s)

/-! ## `adir` (R89) -/

/-- The rule of `adir`. -/
def decideSetAisleDirection (d : Option AisleDirection) (s : State) : State :=
  match d with
  | none => s.answer 8 .badValue
  | some d => ({ s.answer 8 .done with aisle := { s.aisle with pendingDirection := some d } }).applyPending.startStore

/-- SET_AISLE_DIRECTION. -/
def execSetAisleDirection (p : Payload (Option AisleDirection)) (s : State) : Answer :=
  .next (takeRequest 8 aislePayload p decideSetAisleDirection s)

/-! ## `grant` (R96) -/

/-- A granted `grant`: the GRANT record and the ACTIVE credit. -/
def grantCredit (d : Direction) (s : State) : State :=
  let t := s.reply 9 .done (.sequence s.journal.nextSeq)
  let u := t.enterRecord (t.draftRecord .grant (readerOf d) 0) .single
  (u.addCredit { direction := d, source := .staff, state := .active, seq := none, reader := none }).startStore

/-- The rule of `grant`. -/
def decideGrantPassage (d : Option Direction) (s : State) : State :=
  if s.aisle.mode ≠ .normal ∧ s.aisle.mode ≠ .manual then s.answer 9 .notInMode
  else
    match d with
    | none => s.answer 9 .badValue
    | some d =>
      if !s.journal.room 1 then s.answer 9 .full
      else
        match s.askClaim d with
        | .heldOpposite => s.answer 9 .aisleBusy
        | .queueFull => s.answer 9 .full
        | .granted => grantCredit d s

/-- GRANT_PASSAGE. -/
def execGrantPassage (p : Payload (Option Direction)) (s : State) : Answer :=
  .next (takeRequest 9 directionPayload p decideGrantPassage s)

/-! ## `leaf` (R126) -/

/-- The target that a `leaf` names. -/
def leafTarget : LeafRequest → Target
  | .open => .open
  | .close => .closed
  | .free => .free

/-- The rule of `leaf`.  Log entry 16. -/
def decideSetLeafTarget (q : Option LeafRequest) (s : State) : State :=
  match q with
  | none => s.answer 10 .badValue
  | some q =>
    if s.aisle.mode ≠ .manual then s.answer 10 .notInMode
    else
      let t := { s.reply 10 .done (.leafStates s.drive.left.state s.drive.right.state) with
        aisle := { s.aisle with target := leafTarget q } }
      if t.supplyWarning then t else t.handAnew

/-- SET_LEAF_TARGET. -/
def execSetLeafTarget (p : Payload (Option LeafRequest)) (s : State) : Answer :=
  .next (takeRequest 10 leafPayload p decideSetLeafTarget s)

/-! ## `lclr` (R127) -/

/-- How many leaves `lclr` clears. -/
def Drive.faultedLeaves (d : Drive) : Nat := (if d.left.faulted then 1 else 0) + (if d.right.faulted then 1 else 0)

/-- Both leaves under `lclr`. -/
def State.clearLeaves (s : State) : State := s.moveLeaves fun v l => l.clearFault v

/-- The rule of `lclr`; the reply gives the leaf states after the clearing. -/
def decideClearLeafFaults (_ : Unit) (s : State) : State :=
  let d := s.clearLeaves.drive
  (s.reply 11 .done (.leavesCleared s.drive.faultedLeaves d.left.state d.right.state)).clearLeaves

/-- CLEAR_LEAF_FAULTS. -/
def execClearLeafFaults (p : Payload Unit) (s : State) : Answer :=
  .next (takeRequest 11 emptyPayload p decideClearLeafFaults s)

end Sys2Proof.Machine
end

