-- ==== Sys2Proof/Machine/RequestsClock.lean ====
section
/-! DEFINITION. The clock's requests: `stime`, `atime`, `rtime` (section 7.3). -/

namespace Sys2Proof.Machine

/-- The count is replaced, the second boundary restarts, and the clock setting is taken (R132, R134, R140). -/
def State.setClock (n : Nat) (valid : Bool) (s : State) : State :=
  { s with clock := { s.clock with seconds := n, valid := valid, boundary := s.now + 1000000 } }.testLifetimes

/-! ## `stime` (R137) -/

/-- The rule of `stime`; the setting tests the ARMED table (R185). -/
def decideSetTime (d : DateTime) (s : State) : State :=
  match badDateField d with
  | some i => s.reply 12 .badValue (.badField i)
  | none =>
    if !s.atBoundary then s.answer 12 .busy
    else
      let n := countOf d
      let step := if s.clock.valid then some ((n : Int) - (s.clock.seconds : Int)) else none
      ((s.reply 12 .done (.timeSet n (fareMinute n) s.clock.seconds s.clock.valid step)).setClock n
        true).followReaders.testDue.startStore

/-- SET_TIME. -/
def execSetTime (p : Payload DateTime) (s : State) : Answer := .next (takeRequest 12 timePayload p decideSetTime s)

/-! ## `atime` (R138) -/

/-- The nearest whole minute; in the calendar's last minute, down.  Log entry 38. -/
def alignedCount (n : Nat) : Nat :=
  if n % 60 < 30 ∨ fareMinute n = lastFareMinute then n - n % 60 else n - n % 60 + 60

/-- The rule of `atime`; the setting tests the ARMED table (R185). -/
def decideAlignTime (_ : Unit) (s : State) : State :=
  if !s.clock.valid then s.answer 13 .busy
  else if !s.atBoundary then s.answer 13 .busy
  else
    let n := alignedCount s.clock.seconds
    ((s.reply 13 .done (.aligned n (fareMinute n) ((n : Int) - (s.clock.seconds : Int)))).setClock n true).testDue.startStore

/-- ALIGN_TIME. -/
def execAlignTime (p : Payload Unit) (s : State) : Answer := .next (takeRequest 13 emptyPayload p decideAlignTime s)

/-! ## `rtime` (R139) -/

/-- The rule of `rtime`. -/
def decideReadTime (_ : Unit) (s : State) : State := s.reply 14 .done (.time s.timeReport)

/-- READ_TIME. -/
def execReadTime (p : Payload Unit) (s : State) : Answer := .next (takeRequest 14 emptyPayload p decideReadTime s)

end Sys2Proof.Machine
end

