-- ==== Sys2Proof/Machine/RequestsJournal.lean ====
section
/-! DEFINITION. The journal's requests: `jread` and `jrel` (section 8.6). -/

namespace Sys2Proof.Machine

/-! ## `jread` (R157) -/

/-- The rule of `jread`. -/
def decideReadJournal (q : JournalRange) (s : State) : State :=
  if q.count < 1 ∨ 8 < q.count then s.answer 29 .badValue
  else
    s.reply 29 .done
      (.journal (s.journalItems q.start q.count) s.journal.unreleased.length s.journal.newestProgrammed)

/-- READ_JOURNAL. -/
def execReadJournal (p : Payload JournalRange) (s : State) : Answer :=
  .next (takeRequest 29 rangePayload p decideReadJournal s)

/-! ## `jrel` (R158, R159) -/

/-- The sequence number of the oldest record left unreleased, or 0 (R158). -/
def Journal.oldestSeq (j : Journal) : Nat := ((j.unreleased.find? Position.isRecord).bind (·.seq)).getD 0

/-- The journal after a release of `k` positions; erase work held since a failed erase is taken up again (R158, R159). -/
def Journal.release (j : Journal) (k : Nat) : Journal :=
  Journal.settleSectors
    { j with positions := releaseOldest k j.positions,
             eraseWork := if j.eraseWork = .held then .idle else j.eraseWork }

/-- The rule of `jrel`. -/
def decideReleaseJournal (n : Nat) (s : State) : State :=
  let k := releaseCount n s.journal.newestAssigned s.journal.unreleased
  if s.journal.newestAssigned < n then s.answer 30 .order
  else if (s.journal.unreleased.take k).any Position.unsettled then s.answer 30 .busy
  else
    let t := { s with journal := s.journal.release k }
    (t.reply 30 .done (.released k t.journal.oldestSeq)).startStore

/-- RELEASE_JOURNAL. -/
def execReleaseJournal (p : Payload Nat) (s : State) : Answer :=
  .next (takeRequest 30 sequencePayload p decideReleaseJournal s)

end Sys2Proof.Machine
end

