-- ==== Sys2Proof/Machine/RequestsLists.lean ====
section
/-! DEFINITION. Screening's requests: `hlread`, `hlclr`, `sgnote`, `sgread` (chapter 2). -/

namespace Sys2Proof.Machine

/-! ## `hlread` (R38) -/

/-- The rule of `hlread`. -/
def decideReadHotList (start : Nat) (s : State) : State :=
  if 63 < start then s.answer 25 .badValue
  else s.reply 25 .done (.hotList s.check.hotList.length ((s.check.hotList.drop start).take 32))

/-- READ_HOT_LIST. -/
def execReadHotList (p : Payload Nat) (s : State) : Answer := .next (takeRequest 25 indexPayload p decideReadHotList s)

/-! ## `hlclr` (R39) -/

/-- The hot list without an entry, or empty for 0. -/
def Check.clearHot (c : Check) (number : Nat) : Check :=
  { c with hotList := if number = 0 then [] else c.hotList.filter fun e => e.number != number }

/-- The rule of `hlclr`. -/
def decideClearHotListEntry (number : Nat) (s : State) : State :=
  if number = 0 ∧ s.check.hotList = [] then s.answer 26 .done
  else if number ≠ 0 ∧ s.check.hot number = none then s.answer 26 .notFound
  else ({ s.answer 26 .done with check := s.check.clearHot number }).queueRewrite.startStore

/-- CLEAR_HOT_LIST_ENTRY. -/
def execClearHotListEntry (p : Payload Nat) (s : State) : Answer :=
  .next (takeRequest 26 numberPayload p decideClearHotListEntry s)

/-! ## `sgnote` (R47, R48) -/

/-- The fields that `sgnote` accepts (R47). -/
def peerInRange (p : PeerSighting) : Bool :=
  decide (p.number ≠ 0) && decide (p.counter ≤ 65535) && decide (1 ≤ p.station) && decide (p.station ≤ 4095) &&
  decide (1 ≤ p.gate) && decide (p.gate ≤ 63) && decide (p.minute ≤ lastFareMinute) && decide (p.seenAt ≤ clockLimit)

/-- The rule of `sgnote`. -/
def decideNotePeerSighting (p : PeerSighting) (s : State) : State :=
  match p.direction with
  | none => s.answer 27 .badValue
  | some d =>
    if !peerInRange p then s.answer 27 .badValue
    else if !s.clock.valid then s.answer 27 .busy
    else ((s.reply 27 .done (.sightingCase (s.peerCase p))).applyPeer p d).startStore

/-- NOTE_PEER_SIGHTING. -/
def execNotePeerSighting (p : Payload PeerSighting) (s : State) : Answer :=
  .next (takeRequest 27 sightingPayload p decideNotePeerSighting s)

/-! ## `sgread` (R49) -/

/-- The rule of `sgread`. -/
def decideReadSighting (number : Nat) (s : State) : State :=
  if number = 0 then s.reply 28 .done (.count s.check.sightings.length)
  else
    let t := s.search number
    match t.check.sighting number with
    | some e => t.reply 28 .done (.sighting e (t.ageOf e.seenAt) t.check.sightings.length)
    | none => t.reply 28 .notFound (.count t.check.sightings.length)

/-- READ_SIGHTING. -/
def execReadSighting (p : Payload Nat) (s : State) : Answer :=
  .next (takeRequest 28 numberPayload p decideReadSighting s)

end Sys2Proof.Machine
end

