-- ==== Sys2Proof/Machine/RequestsPort.lean ====
section
/-! DEFINITION. Reporting and restart: `nmask`, `stat`, `eclr`, `rstrt`, frames of other kinds, the bytes of the line, and
the transmitter (chapter 11). -/

namespace Sys2Proof.Machine

/-! ## `nmask` (R208) -/

/-- A kind newly enabled has its flag set already (R208). -/
def newlyOwed (old new events : BitVec 32) : Bool := decide (new &&& ~~~old &&& events ≠ 0#32)

/-- The rule of `nmask`. -/
def decideSetNoticeMask (set : BitVec 32) (s : State) : State :=
  if set &&& 0x1E000000#32 ≠ 0#32 then s.answer 31 .badValue
  else
    let old := s.link.mask
    let t := ({ s with link := { s.link with mask := set } }).reply 31 .done (.maskAndEvents set s.link.events)
    if newlyOwed old set s.link.events then { t with link := t.link.oweNatt } else t

/-- SET_NOTICE_MASK. -/
def execSetNoticeMask (p : Payload (BitVec 32)) (s : State) : Answer :=
  .next (takeRequest 31 setPayload p decideSetNoticeMask s)

/-! ## `stat` (R212) -/

/-- The rule of `stat`. -/
def decideReadStatus (_ : Unit) (s : State) : State := s.reply 32 .done (.status s.statusReport)

/-- READ_STATUS. -/
def execReadStatus (p : Payload Unit) (s : State) : Answer := .next (takeRequest 32 emptyPayload p decideReadStatus s)

/-! ## `eclr` (R211) -/

/-- The flags of the level kinds whose conditions hold. -/
def State.levelSet (s : State) : BitVec 32 :=
  levelKinds.foldl (fun b k => if s.levelHolds k then b ||| oneBit k.bit else b) 0#32

/-- The event set after a clear: the named flags cleared, but for level kinds whose condition still holds (R211). -/
def clearedEvents (events named levels : BitVec 32) : BitVec 32 := (events &&& ~~~named) ||| (named &&& levels)

/-- The rule of `eclr`. -/
def decideClearEvents (set : BitVec 32) (s : State) : State :=
  if set &&& 0xFE000000#32 ≠ 0#32 then s.answer 33 .badValue
  else
    let events := clearedEvents s.link.events set s.levelSet
    ({ s with link := { s.link with events := events } }).reply 33 .done (.events events)

/-- CLEAR_EVENTS. -/
def execClearEvents (p : Payload (BitVec 32)) (s : State) : Answer :=
  .next (takeRequest 33 setPayload p decideClearEvents s)

/-! ## `rstrt` (R213) -/

/-- The rule of `rstrt`. -/
def decideRestart (_ : Unit) (s : State) : State :=
  let t := s.answer 34 .done
  { t with link := { t.link with restartPending := true } }

/-- RESTART. -/
def execRestart (p : Payload Unit) (s : State) : Answer := .next (takeRequest 34 emptyPayload p decideRestart s)

/-! ## Frames of other kinds (R198) -/

/-- The kinds of the requests (R198). -/
def requestKind (kind : Byte) : Bool := decide (1 ≤ kind.toNat) && decide (kind.toNat ≤ 34)

/-- UNKNOWN_KIND: the frame is answered and has no other effect. -/
def execUnknownKind (kind : Byte) (s : State) : Answer :=
  .next (if !requestKind kind && s.portTakes kind (fun _ => true) then s.dropFrame.answer kind .unknownKind else s)

/-! ## The receiver (R197, R199) -/

/-- The link's gap limit in microseconds. -/
def gapLimit : Nat := 50000

/-- A frame is discarded: the receiver hunts again, and the count rises (R197). -/
def LinkPort.discard (l : LinkPort) : LinkPort :=
  { l with receiver := .hunting, gap := none, discarded := bump l.discarded 65535 }

/-- A whole frame goes to the input queue, or is lost with LINK_OVERRUN when the queue holds four (R199). -/
def LinkPort.queueFrame (f : Frame) (l : LinkPort) : LinkPort :=
  let t := { l with receiver := .hunting, gap := none }
  if l.input.length < 4 then { t with input := l.input ++ [f] } else t.raise .linkOverrun

/-- The frame in the bytes behind a sync byte: length, kind, payload, check. -/
def frameOf (bs : List Byte) : Frame := { kind := bs.getD 2 0, payload := slice bs 3 (field bs 0 2 - 1) }

/-- The length field lies outside 1 to 641 (R197). -/
def badLengthField (bs : List Byte) : Bool := field bs 0 2 == 0 || decide (641 < field bs 0 2)

/-- A byte inside a frame has been taken: the bytes taken so far, with it, are `bs` (R197). -/
def LinkPort.frameByte (now : Nat) (bs : List Byte) (l : LinkPort) : LinkPort :=
  if bs.length = 2 ∧ badLengthField bs = true then l.discard
  else if 3 ≤ bs.length ∧ bs.length = field bs 0 2 + 4 then
    (if crc16Holds bs (field bs 0 2 + 2) then l.queueFrame (frameOf bs) else l.discard)
  else { l with receiver := .inFrame bs, gap := some (now + gapLimit) }

/-- A byte arrives (R197). -/
def LinkPort.takeByte (now : Nat) (b : Byte) (l : LinkPort) : LinkPort :=
  match l.receiver with
  | .hunting => if b = syncByte then { l with receiver := .inFrame [], gap := some (now + gapLimit) } else l
  | .inFrame bs => l.frameByte now (bs ++ [b])

/-- The byte is the last of a frame. -/
def LinkPort.completes (l : LinkPort) (b : Byte) : Bool :=
  match l.receiver with
  | .hunting => false
  | .inFrame bs => decide (2 ≤ bs.length) && decide ((bs ++ [b]).length = field (bs ++ [b]) 0 2 + 4)

/-- The byte is a second length byte that makes the length 0 or above 641. -/
def LinkPort.spoilsLength (l : LinkPort) (b : Byte) : Bool :=
  match l.receiver with
  | .hunting => false
  | .inFrame bs => decide (bs.length = 1) && badLengthField (bs ++ [b])

/-- A byte is taken by the port. -/
def State.takeByte (b : Byte) (s : State) : State := { s with link := s.link.takeByte s.now b }

/-- WHOLE_FRAME: the byte that ends a frame. -/
def execWholeFrame (b : Byte) (s : State) : Answer :=
  .next (s.whileLinkRuns fun s => if s.link.completes b then s.takeByte b else s)

/-- LENGTH_FIELD_DISCARD: the second length byte that discards a frame. -/
def execLengthFieldDiscard (b : Byte) (s : State) : Answer :=
  .next (s.whileLinkRuns fun s => if s.link.spoilsLength b then s.takeByte b else s)

/-- LINK_BYTE_RECEIVED: any byte of the line. -/
def execLinkByteReceived (b : Byte) (s : State) : Answer := .next (s.whileLinkRuns fun s => s.takeByte b)

/-- GAP_LIMIT_EXPIRY. -/
def execGapLimitExpiry (s : State) : Answer :=
  .next (s.onExpiry s.link.gap fun s => { s with link := s.link.discard })

/-! ## The transmitter (R196, R201, R209, R213) -/

/-- The message is the DONE reply of an `rstrt`. -/
def OutMessage.restarts : OutMessage → Bool
  | .reply kind st _ => kind == replyKind 34 && decide (st = .done)
  | _ => false

/-- MESSAGE_SENT: the oldest message has gone out; a restart that waited for it begins. -/
def execMessageSent (s : State) : Answer :=
  .next
    (match s.link.output with
     | [] => s
     | m :: rest =>
       if s.link.restartPending && m.restarts then s.beginReset .restart
       else { s with link := LinkPort.startHead { s.link with output := rest } })

end Sys2Proof.Machine
end

