-- ==== Sys2Proof/Machine/RequestsStation.lean ====
section
/-! DEFINITION. Identity, keys and settings: `ident`, `setid`, `lockid`, `ldkey`, `gparm`, `rparm` (sections 9.4, 11.4,
11.5). -/

namespace Sys2Proof.Machine

/-! ## `ident` (R205) -/

/-- The rule of `ident`. -/
def decideIdentify (_ : Unit) (s : State) : State := s.reply 1 .done (.ident s.identReport)

/-- IDENTIFY_PART. -/
def execIdentifyPart (p : Payload Unit) (s : State) : Answer := .next (takeRequest 1 emptyPayload p decideIdentify s)

/-! ## `setid` (R173) -/

/-- The values that `setid` accepts. -/
def identityInRange (i : Identity) : Bool :=
  decide (1 ≤ i.station) && decide (i.station ≤ 4095) && decide (1 ≤ i.gate) && decide (i.gate ≤ 63) && decide (i.zone ≤ 15)

/-- The rule of `setid`. -/
def decideSetIdentity (i : Identity) (s : State) : State :=
  if s.station.lock ≠ .unlocked then s.answer 2 .locked
  else if s.aisle.mode ≠ .outOfService then s.answer 2 .notInMode
  else if !s.bothClosed then s.answer 2 .busy
  else if !identityInRange i then s.answer 2 .badValue
  else
    let t := { s.answer 2 .done with station := { s.station with identity := some i } }
    ((t.followReaders).queueControl .identity).startStore

/-- SET_IDENTITY. -/
def execSetIdentity (p : Payload Identity) (s : State) : Answer :=
  .next (takeRequest 2 identityPayload p decideSetIdentity s)

/-! ## `lockid` (R174) -/

/-- The rule of `lockid`. -/
def decideLockIdentity (_ : Unit) (s : State) : State :=
  if s.station.lock ≠ .unlocked then s.answer 3 .locked
  else if s.station.identity = none then s.answer 3 .incomplete
  else if 4 ≤ s.station.nextLock then s.answer 3 .full
  else
    let t := { s.answer 3 .done with station := { s.station with lock := .pending } }
    (t.queueJob .lockEntry).startStore

/-- LOCK_IDENTITY. -/
def execLockIdentity (p : Payload Unit) (s : State) : Answer :=
  .next (takeRequest 3 emptyPayload p decideLockIdentity s)

/-! ## `ldkey` (R29, R206) -/

/-- The slot that `ldkey` does not name. -/
def Check.otherKey (c : Check) (slot : Nat) : Option KeySlot := if slot = 0 then c.key1 else c.key0

/-- The key slots after `ldkey`. -/
def Check.withKey (c : Check) (slot : Nat) (k : Option KeySlot) : Check :=
  if slot = 0 then { c with key0 := k } else { c with key1 := k }

/-- The rule of `ldkey`. -/
def decideLoadKey (f : KeyFields) (s : State) : State :=
  if s.aisle.mode ≠ .outOfService then s.answer 4 .notInMode
  else if 1 < f.slot ∨ 1 < f.presence then s.answer 4 .badValue
  else if f.presence = 1 ∧ (s.check.otherKey f.slot).map (·.version) = some f.version then s.answer 4 .badValue
  else
    let c := s.check.withKey f.slot (if f.presence = 1 then some { version := f.version, key := f.key } else none)
    let t := { s with check := c }
    ((t.reply 4 .done (.keyVersions (c.key0.map (·.version)) (c.key1.map (·.version)))).queueControl .key).startStore

/-- LOAD_KEY. -/
def execLoadKey (p : Payload KeyFields) (s : State) : Answer := .next (takeRequest 4 keyPayload p decideLoadKey s)

/-! ## `gparm` (R106, R203) -/

/-- A pair whose value is none of its setting's codes (R203 step 5). -/
def badCode (q : Nat × Nat) : Bool :=
  match settingCodes q.1 with
  | some greatest => decide (greatest < q.2)
  | none => false

/-- The value that a pair stores (R203). -/
def storedValue (q : Nat × Nat) : Nat :=
  match settingCodes q.1 with
  | some _ => q.2
  | none => clampSetting q.1 q.2

/-- A value taken: stored, in force at once for identifiers 1 to 5, and pending for the others (R203). -/
def SettingsBlock.take (b : SettingsBlock) (q : Nat × Nat) : SettingsBlock :=
  let v := storedValue q
  { stored := b.stored.set q.1 v,
    inForce := if immediateSetting q.1 then b.inForce.set q.1 v else b.inForce,
    pending := if immediateSetting q.1 || b.pending.contains q.1 then b.pending else b.pending ++ [q.1] }

/-- The pairs of a `gparm` are taken (R203).  That the reply has one item for each pair, with the value stored in the end, is
log entry 49. -/
def takePairs (ps : List (Nat × Nat)) (s : State) : State :=
  let b := ps.foldl SettingsBlock.take s.settings
  let moved := ps.any fun q => storedValue q != q.2
  let t := { s with settings := b }
  let u := t.reply 5 (if moved then .clamped else .done) (.storedValues (ps.map fun q => (q.1, b.stored.get q.1)))
  let w := if b.stored = s.settings.stored then u else u.queueControl .settings
  let x := if ps.any (fun q => q.1 == 5) then w.testLifetimes else w
  x.applyPending.startStore

/-- The rule of `gparm`. -/
def decideSetParameters (ps : List (Nat × Nat)) (s : State) : State :=
  if ps.any fun q => !knownSetting q.1 then s.answer 5 .badValue
  else if (ps.any fun q => q.1 == 2 || polaritySetting q.1) && decide (s.aisle.mode ≠ .outOfService) then
    s.answer 5 .notInMode
  else if (ps.any fun q => q.1 == 2) && !s.bothClosed then s.answer 5 .busy
  else if ps.any badCode then s.answer 5 .badValue
  else takePairs ps s

/-- The payload of a `gparm`: 1 to 64 whole pairs (R203 step 1). -/
def pairsPayload (payload : List Byte) : Payload (List (Nat × Nat)) :=
  match settingPairs payload with
  | some ps => if 1 ≤ ps.length ∧ ps.length ≤ 64 then .fits ps else .misfit
  | none => .misfit

/-- SET_PARAMETERS. -/
def execSetParameters (payload : List Byte) (s : State) : Answer :=
  .next (takeRequest 5 pairsPayload (pairsPayload payload) decideSetParameters s)

/-! ## `rparm` (R204) -/

/-- The rule of `rparm`. -/
def decideReadParameters (_ : Unit) (s : State) : State :=
  s.reply 6 .done (.settings s.settings.items s.aisle.direction s.aisle.pendingDirection)

/-- READ_PARAMETERS. -/
def execReadParameters (p : Payload Unit) (s : State) : Answer :=
  .next (takeRequest 6 emptyPayload p decideReadParameters s)

end Sys2Proof.Machine
end

