-- ==== Sys2Proof/Machine/RequestsTables.lean ====
section
/-! DEFINITION. The fare table's and the deny list's requests: `ftpart`, `ftarm`, `ftdrop`, `ftstat`, `dlbeg`, `dlput`,
`dlend`, `dladd`, `dldel`, `dlstat` (chapter 10). -/

namespace Sys2Proof.Machine

/-! ## `ftpart` (R181) -/

/-- The payload of an `ftpart`: 128 bytes of data (R181). -/
def partPayload (p : Payload FarePart) : Payload FarePart :=
  match p with
  | .fits f => if f.bytes.length = 128 then .fits f else .misfit
  | .misfit => .misfit

/-- The rule of `ftpart`. -/
def decideLoadFareTablePart (f : FarePart) (s : State) : State :=
  let place := fun (ps : List (Option (List Byte))) =>
    let ps := ps.set f.index (some f.bytes)
    ({ s with loader := { s.loader with parts := ps } }).reply 15 .done (.parts (heldParts ps))
  if 7 < f.index then s.reply 15 .badValue (.parts (heldParts s.loader.parts))
  else if f.index = 0 then place noParts
  else if (heldParts s.loader.parts).contains 0 then place s.loader.parts
  else s.reply 15 .order (.parts (heldParts s.loader.parts))

/-- LOAD_FARE_TABLE_PART. -/
def execLoadFareTablePart (p : Payload FarePart) (s : State) : Answer :=
  .next (takeRequest 15 partBytes (partPayload p) decideLoadFareTablePart s)

/-! ## `ftarm` (R182, R183) -/

/-- An accepted `ftarm`.  The staging bank stays the one that the arm programs (log entry 54). -/
def armTable (image : List Byte) (s : State) : State :=
  let t := { s.reply 16 .done (.version (field image 0 4)) with
    loader := { s.loader with staged := .arming image, parts := noParts } }
  (t.queueJob (.arm s.loader.stagingBank)).startStore

/-- The rule of `ftarm`. -/
def decideArmStagedFareTable (_ : Unit) (s : State) : State :=
  let l := s.loader
  let image := joinParts l.parts
  if l.staged.isArming || l.markPending then s.answer 16 .busy
  else if missingParts l.parts ≠ [] then s.reply 16 .incomplete (.missing (missingParts l.parts))
  else
    match imageOffence image with
    | some o => s.reply 16 .badTable (.offset o)
    | none =>
      if s.fare.any fun t => decide (field image 0 4 ≤ t.version) then s.answer 16 .version else armTable image s

/-- ARM_STAGED_FARE_TABLE. -/
def execArmStagedFareTable (p : Payload Unit) (s : State) : Answer :=
  .next (takeRequest 16 emptyPayload p decideArmStagedFareTable s)

/-! ## `ftdrop` (R184) -/

/-- The rule of `ftdrop`. -/
def decideDropStagedFareTable (_ : Unit) (s : State) : State :=
  let l := s.loader
  if l.staged.isArming then s.answer 17 .busy
  else
    let t := { s.answer 17 .done with loader := { l.dropStaged with parts := noParts } }
    if l.staged.isArmed then (t.queueJob (.withdrawal l.stagingBank)).startStore else t

/-- DROP_STAGED_FARE_TABLE. -/
def execDropStagedFareTable (p : Payload Unit) (s : State) : Answer :=
  .next (takeRequest 17 emptyPayload p decideDropStagedFareTable s)

/-! ## `ftstat` (R187) -/

/-- The rule of `ftstat`. -/
def decideReadFareTableState (_ : Unit) (s : State) : State := s.reply 18 .done (.fareTable s.fareTableReport)

/-- READ_FARE_TABLE_STATE. -/
def execReadFareTableState (p : Payload Unit) (s : State) : Answer :=
  .next (takeRequest 18 emptyPayload p decideReadFareTableState s)

/-! ## `dlbeg` (R188) -/

/-- The rule of `dlbeg`. -/
def decideBeginDenyListLoad (h : LoadHeader) (s : State) : State :=
  let l := s.loader
  if l.load = .programming ∨ l.load = .activating then s.answer 19 .busy
  else if 8192 < h.count then s.answer 19 .badValue
  else if h.version ≤ s.check.denyVersion then s.answer 19 .stale
  else
    { s.answer 19 .done with
      loader := { l with load := .loading, list := [], listVersion := h.version, listCount := h.count } }

/-- BEGIN_DENY_LIST_LOAD. -/
def execBeginDenyListLoad (p : Payload LoadHeader) (s : State) : Answer :=
  .next (takeRequest 19 loadPayload p decideBeginDenyListLoad s)

/-! ## `dlput` (R189) -/

/-- The last number that the staged list holds, or 0. -/
def lastNumber (xs : List DenyEntry) : Nat := (xs.getLast?.map (·.number)).getD 0

/-- The rule of `dlput`. -/
def decidePutDenyListEntries (es : List DenyEntry) (s : State) : State :=
  let l := s.loader
  if l.load ≠ .loading then s.answer 20 .order
  else if es.length < 1 ∨ 32 < es.length ∨ (es.any fun e => e.number == 0 || decide (15 < e.reason)) = true then
    s.answer 20 .badValue
  else if !ascendingFrom (lastNumber l.list) (es.map (·.number)) || decide (l.listCount < l.list.length + es.length) then
    { s.answer 20 .order with loader := l.idle }
  else
    ({ s with loader := { l with list := l.list ++ es } }).reply 20 .done (.count (l.list.length + es.length))

/-- PUT_DENY_LIST_ENTRIES. -/
def execPutDenyListEntries (p : Payload (List DenyEntry)) (s : State) : Answer :=
  .next (takeRequest 20 entriesPayload p decidePutDenyListEntries s)

/-! ## `dlend` (R190) -/

/-- The rule of `dlend`. -/
def decideEndDenyListLoad (_ : Unit) (s : State) : State :=
  let l := s.loader
  if l.load ≠ .loading then s.answer 21 .order
  else if l.list.length < l.listCount then s.reply 21 .incomplete (.count l.list.length)
  else
    let t := { s.answer 21 .done with loader := { l with load := .programming } }
    (t.queueJob (.denyBank l.stagingDeny)).startStore

/-- END_DENY_LIST_LOAD. -/
def execEndDenyListLoad (p : Payload Unit) (s : State) : Answer :=
  .next (takeRequest 21 emptyPayload p decideEndDenyListLoad s)

/-! ## `dladd` and `dldel` (R193) -/

/-- Steps 1 to 5 of R193, which the two requests share: the refusal, if one is due. -/
def deltaRefusal (s : State) (badValue : Bool) (expected : Nat) : Option (Status × ReplyData) :=
  if s.loader.load = .activating then some (.busy, .none)
  else if s.loader.markedBank = none then some (.order, .none)
  else if badValue then some (.badValue, .none)
  else if expected ≠ s.check.denyVersion ∨ s.check.denyVersion = 4294967295 then
    some (.version, .version s.check.denyVersion)
  else if 256 ≤ s.loader.logUse then some (.full, .none)
  else none

/-- A delta accepted (R193 step 7). -/
def acceptDelta (kind : Byte) (d : Delta) (s : State) : State :=
  ((s.reply kind .done (.deltaTaken d.version s.loader.logUse)).takeDelta d).startStore

/-- The rule of `dladd`. -/
def decideAddDenyListEntry (f : DenyAdd) (s : State) : State :=
  match deltaRefusal s (f.number == 0 || decide (15 < f.reason)) f.expected with
  | some q => s.reply 22 q.1 q.2
  | none =>
    if 8192 ≤ s.check.denyList.length then s.answer 22 .full
    else if (s.check.denied f.number).isSome then s.answer 22 .order
    else acceptDelta 22 { add := true, number := f.number, reason := f.reason, version := s.check.denyVersion + 1 } s

/-- ADD_DENY_LIST_ENTRY. -/
def execAddDenyListEntry (p : Payload DenyAdd) (s : State) : Answer :=
  .next (takeRequest 22 addPayload p decideAddDenyListEntry s)

/-- The rule of `dldel`. -/
def decideDeleteDenyListEntry (f : DenyDelete) (s : State) : State :=
  match deltaRefusal s (f.number == 0) f.expected with
  | some q => s.reply 23 q.1 q.2
  | none =>
    if (s.check.denied f.number).isNone then s.answer 23 .notFound
    else acceptDelta 23 { add := false, number := f.number, reason := 0, version := s.check.denyVersion + 1 } s

/-- DELETE_DENY_LIST_ENTRY. -/
def execDeleteDenyListEntry (p : Payload DenyDelete) (s : State) : Answer :=
  .next (takeRequest 23 deletePayload p decideDeleteDenyListEntry s)

/-! ## `dlstat` (R195) -/

/-- The rule of `dlstat`. -/
def decideReadDenyListState (_ : Unit) (s : State) : State := s.reply 24 .done (.deny s.denyReport)

/-- READ_DENY_LIST_STATE. -/
def execReadDenyListState (p : Payload Unit) (s : State) : Answer :=
  .next (takeRequest 24 emptyPayload p decideReadDenyListState s)

end Sys2Proof.Machine
end

