-- ==== Sys2Proof/Machine/Dispatch.lean ====
section
/-! DEFINITION. The dispatch: one arm per command, each one direct call of its meaning. -/

namespace Sys2Proof.Machine

def exec (i : Instr) (s : State) : Host.Outcome State Fault Refusal :=
  match i with
  | .identifyPart p => Sys2Proof.Machine.execIdentifyPart p s
  | .setIdentity p => Sys2Proof.Machine.execSetIdentity p s
  | .lockIdentity p => Sys2Proof.Machine.execLockIdentity p s
  | .loadKey p => Sys2Proof.Machine.execLoadKey p s
  | .setParameters payload => Sys2Proof.Machine.execSetParameters payload s
  | .readParameters p => Sys2Proof.Machine.execReadParameters p s
  | .setGateMode p => Sys2Proof.Machine.execSetGateMode p s
  | .setAisleDirection p => Sys2Proof.Machine.execSetAisleDirection p s
  | .grantPassage p => Sys2Proof.Machine.execGrantPassage p s
  | .setLeafTarget p => Sys2Proof.Machine.execSetLeafTarget p s
  | .clearLeafFaults p => Sys2Proof.Machine.execClearLeafFaults p s
  | .setTime p => Sys2Proof.Machine.execSetTime p s
  | .alignTime p => Sys2Proof.Machine.execAlignTime p s
  | .readTime p => Sys2Proof.Machine.execReadTime p s
  | .loadFareTablePart p => Sys2Proof.Machine.execLoadFareTablePart p s
  | .armStagedFareTable p => Sys2Proof.Machine.execArmStagedFareTable p s
  | .dropStagedFareTable p => Sys2Proof.Machine.execDropStagedFareTable p s
  | .readFareTableState p => Sys2Proof.Machine.execReadFareTableState p s
  | .beginDenyListLoad p => Sys2Proof.Machine.execBeginDenyListLoad p s
  | .putDenyListEntries p => Sys2Proof.Machine.execPutDenyListEntries p s
  | .endDenyListLoad p => Sys2Proof.Machine.execEndDenyListLoad p s
  | .addDenyListEntry p => Sys2Proof.Machine.execAddDenyListEntry p s
  | .deleteDenyListEntry p => Sys2Proof.Machine.execDeleteDenyListEntry p s
  | .readDenyListState p => Sys2Proof.Machine.execReadDenyListState p s
  | .readHotList p => Sys2Proof.Machine.execReadHotList p s
  | .clearHotListEntry p => Sys2Proof.Machine.execClearHotListEntry p s
  | .notePeerSighting p => Sys2Proof.Machine.execNotePeerSighting p s
  | .readSighting p => Sys2Proof.Machine.execReadSighting p s
  | .readJournal p => Sys2Proof.Machine.execReadJournal p s
  | .releaseJournal p => Sys2Proof.Machine.execReleaseJournal p s
  | .setNoticeMask p => Sys2Proof.Machine.execSetNoticeMask p s
  | .readStatus p => Sys2Proof.Machine.execReadStatus p s
  | .clearEvents p => Sys2Proof.Machine.execClearEvents p s
  | .restart p => Sys2Proof.Machine.execRestart p s
  | .unknownKind kind => Sys2Proof.Machine.execUnknownKind kind s
  | .wholeFrame b => Sys2Proof.Machine.execWholeFrame b s
  | .lengthFieldDiscard b => Sys2Proof.Machine.execLengthFieldDiscard b s
  | .gapLimitExpiry => Sys2Proof.Machine.execGapLimitExpiry s
  | .messageSent => Sys2Proof.Machine.execMessageSent s
  | .powerOn => Sys2Proof.Machine.execPowerOn s
  | .supplyDip => Sys2Proof.Machine.execSupplyDip s
  | .resetLine => Sys2Proof.Machine.execResetLine s
  | .resetEnd => Sys2Proof.Machine.execResetEnd s
  | .startUpScanEnd => Sys2Proof.Machine.execStartUpScanEnd s
  | .scanProgramComplete ok => Sys2Proof.Machine.execScanProgramComplete ok s
  | .cardPresent l => Sys2Proof.Machine.execCardPresent l s
  | .collision l => Sys2Proof.Machine.execCollision l s
  | .cardRemoved l => Sys2Proof.Machine.execCardRemoved l s
  | .sessionStart r => Sys2Proof.Machine.execSessionStart r s
  | .identifyAnswer l card => Sys2Proof.Machine.execIdentifyAnswer l card s
  | .authenticateAnswer l response => Sys2Proof.Machine.execAuthenticateAnswer l response s
  | .readAnswer l image => Sys2Proof.Machine.execReadAnswer l image s
  | .intentEntersStaging r => Sys2Proof.Machine.execIntentEntersStaging r s
  | .pendingRecordEntersStaging r => Sys2Proof.Machine.execPendingRecordEntersStaging r s
  | .writeAnswer l a => Sys2Proof.Machine.execWriteAnswer l a s
  | .blockAnswer l a => Sys2Proof.Machine.execBlockAnswer l a s
  | .queryAnswer l counter => Sys2Proof.Machine.execQueryAnswer l counter s
  | .answerWindowExpiry r => Sys2Proof.Machine.execAnswerWindowExpiry r s
  | .outcomeDisplayExpiry r => Sys2Proof.Machine.execOutcomeDisplayExpiry r s
  | .honourWindowExpiry n => Sys2Proof.Machine.execHonourWindowExpiry n s
  | .emergencyLineFilteredChange => Sys2Proof.Machine.execEmergencyLineFilteredChange s
  | .sensorRawChange t sensor level => Sys2Proof.Machine.execSensorRawChange t sensor level s
  | .beamFilteredChange b => Sys2Proof.Machine.execBeamFilteredChange b s
  | .creditExpiry => Sys2Proof.Machine.execCreditExpiry s
  | .closeDelayExpiry => Sys2Proof.Machine.execCloseDelayExpiry s
  | .loiter => Sys2Proof.Machine.execLoiter s
  | .beamStuck b => Sys2Proof.Machine.execBeamStuck b s
  | .pendingSettingsTakeEffect => Sys2Proof.Machine.execPendingSettingsTakeEffect s
  | .endSwitchFilteredChange side e => Sys2Proof.Machine.execEndSwitchFilteredChange side e s
  | .deadtimeExpiry side => Sys2Proof.Machine.execDeadtimeExpiry side s
  | .brakeIntervalExpiry side => Sys2Proof.Machine.execBrakeIntervalExpiry side s
  | .motionLimitExpiry side => Sys2Proof.Machine.execMotionLimitExpiry side s
  | .inrushBlankingExpiry side => Sys2Proof.Machine.execInrushBlankingExpiry side s
  | .currentSample side milliamps => Sys2Proof.Machine.execCurrentSample side milliamps s
  | .reopenHoldExpiry side => Sys2Proof.Machine.execReopenHoldExpiry side s
  | .supplyWarningStart => Sys2Proof.Machine.execSupplyWarningStart s
  | .supplyWarningEnd => Sys2Proof.Machine.execSupplyWarningEnd s
  | .secondTick => Sys2Proof.Machine.execSecondTick s
  | .fareTableActivation => Sys2Proof.Machine.execFareTableActivation s
  | .denyListLoadTest => Sys2Proof.Machine.execDenyListLoadTest s
  | .storeOperationTimeout => Sys2Proof.Machine.execStoreOperationTimeout s
  | .journalOperationComplete ok => Sys2Proof.Machine.execJournalOperationComplete ok s
  | .floorProgramComplete ok => Sys2Proof.Machine.execFloorProgramComplete ok s
  | .journalSectorEraseComplete ok => Sys2Proof.Machine.execJournalSectorEraseComplete ok s
  | .hotListRewriteComplete ok => Sys2Proof.Machine.execHotListRewriteComplete ok s
  | .controlRecordWriteComplete ok => Sys2Proof.Machine.execControlRecordWriteComplete ok s
  | .lockEntryProgramComplete ok => Sys2Proof.Machine.execLockEntryProgramComplete ok s
  | .deltaSlotProgramComplete ok => Sys2Proof.Machine.execDeltaSlotProgramComplete ok s
  | .armJobOperationComplete ok => Sys2Proof.Machine.execArmJobOperationComplete ok s
  | .fareMarkJobComplete ok => Sys2Proof.Machine.execFareMarkJobComplete ok s
  | .withdrawalComplete ok => Sys2Proof.Machine.execWithdrawalComplete ok s
  | .bankJobOperationComplete ok => Sys2Proof.Machine.execBankJobOperationComplete ok s
  | .denyMarkJobComplete ok => Sys2Proof.Machine.execDenyMarkJobComplete ok s
  | .logEraseComplete ok => Sys2Proof.Machine.execLogEraseComplete ok s
  | .linkByteReceived b => Sys2Proof.Machine.execLinkByteReceived b s
  | .startUpScanStepEnd => Sys2Proof.Machine.execStartUpScanStepEnd s
  | .backupSupplyLoss => Sys2Proof.Machine.execBackupSupplyLoss s
  | .mainSupplyLoss => Sys2Proof.Machine.execMainSupplyLoss s

end Sys2Proof.Machine
end

