-- ==== Sys2Proof/Safety.lean ====
section
/-! DEFINITION. What counts as a safe state of the 520: the rules that the manual states of the whole part. -/

namespace Sys2Proof.Machine

/-! ## The leaves (R109, R112, R123, R131) -/

/-- The bridge column of R112's table of leaf states. -/
def Leaf.bridgeFits (l : Leaf) : Bool :=
  match l.state with
  | .opening => decide (l.bridge = .off) || decide (l.bridge = .driveOpen)
  | .closing => decide (l.bridge = .off) || decide (l.bridge = .driveClose)
  | .braking => decide (l.bridge = .off) || decide (l.bridge = .brake)
  | .free | .closed | .open | .stalled | .heldOpen => decide (l.bridge = .off)

/-- The leaf is being closed. -/
def Leaf.closesNow (l : Leaf) : Bool := decide (l.state = .closing) || decide (l.bridge = .driveClose)

/-- The leaves may be driven toward closed: S is clear and the mode is not EMERGENCY (R123). -/
def State.mayDriveClosed (s : State) : Bool := !s.aisle.beamS.line.level && !decide (s.aisle.mode = .emergency)

/-- Every leaf's bridge fits its state (R112); no leaf is driven toward closed while S is blocked or the mode is EMERGENCY
(R123); and the leaves are FREE except in service (R131). -/
def State.leavesSafe (s : State) : Prop :=
  s.drive.left.bridgeFits = true ∧ s.drive.right.bridgeFits = true ∧
  (s.drive.left.closesNow = true ∨ s.drive.right.closesNow = true → s.mayDriveClosed = true) ∧
  (s.phase ≠ .running → s.drive.left.state = .free ∧ s.drive.right.state = .free)

/-! ## The aisle claim (R90) -/

/-- The claim is held exactly when the queue is non-empty or the tracker is not CLEAR, and every credit has its
direction (R90). -/
def Aisle.claimSound (a : Aisle) : Prop :=
  (a.claim = none ↔ a.credits = [] ∧ a.phase = .clear) ∧ ∀ c ∈ a.credits, a.claim = some c.direction

/-! ## The Recovery List's lifetime test (R77) -/

/-- The journal after a lifetime test at a fare minute: an entry held with its UNCERTAIN mark stays with it only while its age
does not exceed the lifetime, a negative age counting as 0 (R74, R77).  That the test reaches held entries is log entry 63,
DEDUCED. -/
def Journal.heldWithin (j : Journal) (lifetime minute : Nat) : Journal :=
  { j with staging := j.staging.map fun x =>
      match x with
      | .mark pos st prepared => .mark pos st (prepared.filter fun e => decide (minute - e.minute ≤ lifetime))
      | x => x }

/-! ## Bounded collections (R32, R40, R74) -/

/-- At most one entry per card number, and no more than 512 (R40). -/
def sightingsSound (xs : List Sighting) : Prop := (xs.map (·.number)).Nodup ∧ xs.length ≤ 512

/-- At most one entry per card number, and no more than 16 (R74). -/
def recoverySound (xs : List RecoveryEntry) : Prop := (xs.map (·.number)).Nodup ∧ xs.length ≤ 16

/-! ## The deny lists and the staging queue (R26, R150, R151, R189) -/

/-- The active deny list and the staged one are strictly ascending and hold no more than 8,192 entries; a full load declares
no more, and has received no more than it declared (R26, R188, R189). -/
def State.denyListsSound (s : State) : Prop :=
  (s.check.denyList.map (·.number)).Pairwise (· < ·) ∧ s.check.denyList.length ≤ 8192 ∧
  (s.loader.list.map (·.number)).Pairwise (· < ·) ∧ s.loader.list.length ≤ s.loader.listCount ∧
  s.loader.listCount ≤ 8192

/-- A staged intent, whose mark is still to come (R150). -/
def StagingEntry.owesMark : StagingEntry → Bool
  | .record _ _ owner => decide (owner ≠ .single)
  | .mark _ _ _ | .damagedMark _ => false

/-- A session whose intent is programmed and whose mark is still to come: it awaits the answer to WRITE, BLOCK or QUERY
(R16 to R18, R149). -/
def Session.owesMark (x : Session) : Bool :=
  x.intentSeq.isSome && (decide (x.state = .writing) || decide (x.state = .querying) ||
    x.exchange.any fun e => e.isWrite || e.isBlock || e.isQuery)

/-- The marks still to come. -/
def State.owedMarks (s : State) : Nat :=
  s.journal.staging.countP StagingEntry.owesMark + (s.session .U).owesMark.toNat + (s.session .P).owesMark.toNat

/-- An intent that waits is of a card-writing kind, in AWAIT_INTENT, and its session has queued none; a session that has queued
one no longer identifies, authenticates or reads (R16, R151). -/
def Session.intentSound (x : Session) : Prop :=
  (∀ rec, x.intent = some rec →
    rec.kind.cardWriting = true ∧ x.state = .awaitIntent ∧ x.exchange = none ∧ x.intentSeq = none) ∧
  (x.intentSeq.isSome = true → ∀ e, x.exchange = some e → e.isWrite = true ∨ e.isBlock = true ∨ e.isQuery = true)

/-- The staging queue and its reservations take no more than 8 entries, and every mark still to come has its reservation;
records that no session waits for owe no mark (R150, R151). -/
def State.stagingSound (s : State) : Prop :=
  s.journal.staging.length + s.journal.reservations ≤ 8 ∧ s.owedMarks ≤ s.journal.reservations ∧
  (∀ rec pos, StagingEntry.record rec pos .single ∈ s.journal.staging → rec.kind.cardWriting = false) ∧
  (∀ r rec, { reader := r, item := .record rec } ∈ s.journal.waiting → rec.kind.cardWriting = false) ∧
  (s.session .U).intentSound ∧ (s.session .P).intentSound

/-! ## Outside service (R25, R88, R108, R163, R177) -/

/-- Except in service the mode is OUT_OF_SERVICE, no credit is queued and the claim is free, both readers are CLOSED with no
exchange and no intent, and the staging queue, its reservations and the waiting line are empty (R25, R88, R108, R163, R177).
Without supply RAM reads so by log entry 14. -/
def State.restsOutsideService (s : State) : Prop :=
  s.phase ≠ .running →
    s.aisle.mode = .outOfService ∧ s.aisle.credits = [] ∧ s.aisle.claim = none ∧ s.aisle.phase = .clear ∧
    s.journal.staging = [] ∧ s.journal.reservations = 0 ∧ s.journal.waiting = [] ∧
    ∀ r, (s.session r).state = .closed ∧ (s.session r).exchange = none ∧ (s.session r).intent = none ∧
      (s.session r).intentSeq = none

/-! ## The output queue (R201) -/

/-- A `natt`. -/
def OutMessage.isNatt : OutMessage → Bool
  | .natt _ => true
  | _ => false

/-- A `natt` whose transmission has begun stands at the head only, at most one waits, and the other messages number at
most 14; so the queue never needs a seventeenth place (R201, R209). -/
def outputSound (xs : List OutMessage) : Prop :=
  xs.countP (fun m => !m.isNatt) ≤ 14 ∧ xs.count (.natt none) ≤ 1 ∧
  ∀ m ∈ xs.tail, m.isNatt = true → m = .natt none

/-! ## The motors' timers (R112, R117) -/

/-- A brake interval runs only while the bridge is in BRAKE, and only a leaf in BRAKING with its bridge OFF has braked
(R117). -/
def Leaf.brakeFits (l : Leaf) : Prop :=
  (l.brake.isSome = true → l.bridge = .brake) ∧ (l.braked = true → l.state = .braking ∧ l.bridge = .off)

/-! ## The records that a session makes (R22, R83, R147, R151) -/

/-- A session's record enters the staging queue with the next number, or waits in the session's pending record slot; `staged`
and `waited` are what the same step put behind it. -/
def State.makesRecord (s t : State) (r : Reader) (staged : List StagingEntry) (waited : List Waiting)
    (good : JournalRecord → Prop) : Prop :=
  ∃ rec : JournalRecord, good rec ∧
    if s.journal.waiting = [] ∧ s.journal.room 1 = true then
      rec.seq = s.journal.nextSeq ∧ t.journal.waiting = waited ∧
      ∃ pos, t.journal.staging = s.journal.staging ++ .record rec pos .single :: staged
    else
      t.journal.staging = s.journal.staging ∧
      t.journal.waiting = s.journal.waiting ++ { reader := r, item := .record rec } :: waited

/-- The REFUSED record of a session's card at a reader, with the outcome as its reason and the card unwritten (R22, R147). -/
def JournalRecord.refuses (rec : JournalRecord) (r : Reader) (card : CardId) (o : CardOutcome) : Prop :=
  rec.kind = .refused ∧ rec.reason = o.code ∧ rec.reader = r ∧ rec.number = card.number ∧ rec.cls = card.cls ∧
  rec.counterBefore = card.counter ∧ rec.counterAfter = card.counter

/-- A session's intent enters the staging queue with the next number and the reservation of its mark, when no record waits and
there is room for both; otherwise it waits in the line, and the session holds it. -/
def State.queuesIntent (s t : State) (r : Reader) (good : JournalRecord → Prop) : Prop :=
  ∃ rec : JournalRecord, good rec ∧
    if s.journal.waiting = [] ∧ s.journal.room 2 = true then
      rec.seq = s.journal.nextSeq ∧ t.journal.nextSeq = s.journal.nextSeq + 1 ∧ t.journal.waiting = [] ∧
      t.journal.staging = s.journal.staging ++ [.record rec s.journal.writePos (.session r)] ∧
      t.journal.reservations = s.journal.reservations + 1 ∧
      (t.session r).intent = none ∧ (t.session r).intentSeq = some s.journal.nextSeq
    else
      t.journal.staging = s.journal.staging ∧ t.journal.nextSeq = s.journal.nextSeq ∧
      t.journal.waiting = s.journal.waiting ++ [{ reader := r, item := .intent }] ∧ (t.session r).intent = some rec

/-- The intent of a fare write: the decision's fields, and the counter after that the write expects (R71, R147). -/
def JournalRecord.intends (rec : JournalRecord) (r : Reader) (card : CardId) (d : Decision) : Prop :=
  rec.kind = d.kind ∧ rec.reason = 0 ∧ rec.reader = r ∧ rec.number = card.number ∧ rec.cls = card.cls ∧
  rec.counterBefore = card.counter ∧ rec.counterAfter = card.counter + 1 ∧ rec.fare = d.fare ∧ rec.charged = d.charge ∧
  rec.unclosed = d.unclosed ∧ rec.minute = d.minute ∧ rec.balance = d.image.balance ∧ rec.dayTotal = d.image.dayTotal ∧
  rec.journeyStation = d.image.journeyStation ∧ rec.journeyZone = d.image.journeyZone ∧ rec.band = d.image.band ∧
  rec.journeyCharged = d.image.journeyCharged ∧ rec.trip = d.image.trip ∧ rec.continuations = d.image.continuations ∧
  rec.referenced = none

/-- The BLOCK intent of a card, with the outcome as its reason (R19, R147). -/
def JournalRecord.blocks (rec : JournalRecord) (r : Reader) (card : CardId) (o : CardOutcome) : Prop :=
  rec.kind = .block ∧ rec.reason = o.code ∧ rec.reader = r ∧ rec.number = card.number ∧ rec.cls = card.cls ∧
  rec.counterBefore = card.counter ∧ rec.counterAfter = card.counter + 1 ∧ rec.fare = 0 ∧ rec.charged = 0 ∧
  rec.referenced = none

/-! ## The ends of a card write (R16 to R19, R93) -/

/-- The RESERVED credit of a reader's session is gone, and every other credit stands (R17, R18). -/
def State.creditRemoved (s t : State) (r : Reader) : Prop :=
  t.aisle.credits = s.aisle.credits.eraseP fun c => decide (c.state = .reserved) && decide (c.reader = some r)

/-- The session's write ends UNCERTAIN: its RESERVED credit is removed, and its UNCERTAIN mark is queued, with a prepared
Recovery List entry for a fare write and none for a BLOCK (R18, R19, R74, R75). -/
def State.endsUncertain (s t : State) (r : Reader) : Prop :=
  let x := s.session r
  s.creditRemoved t r ∧ ∀ seq pos, x.intentSeq = some seq → s.journal.posOf seq = some pos →
    (x.blockPath = true → t.journal.staging = s.journal.staging ++ [.mark pos .uncertain none]) ∧
    (x.blockPath = false → ∀ card d, x.card = some card → x.decision = some d →
      t.journal.staging = s.journal.staging ++ [.mark pos .uncertain (some
        { number := card.number, before := card.counter, after := card.counter + 1, seq := seq,
          direction := directionOfReader r, minute := d.minute, stamp := d.image.writer,
          honourDeadline := x.honourDeadline })])

/-! ## The store (R164, R169) -/

/-- The bytes that an operation may change. -/
def StoreAction.covers (a : Nat) : StoreAction → Prop
  | .program _ base bs => base ≤ a ∧ a < base + bs.length
  | .erase k => inSector k a = true

/-! ## Requests (R198, R200) -/

/-- The kind of a request, in the order of section 11.5; none for a command that is not a request. -/
def requestKindOf : Instr → Option Byte
  | .identifyPart _ => some 1 | .setIdentity _ => some 2 | .lockIdentity _ => some 3 | .loadKey _ => some 4
  | .setParameters _ => some 5 | .readParameters _ => some 6 | .setGateMode _ => some 7 | .setAisleDirection _ => some 8
  | .grantPassage _ => some 9 | .setLeafTarget _ => some 10 | .clearLeafFaults _ => some 11 | .setTime _ => some 12
  | .alignTime _ => some 13 | .readTime _ => some 14 | .loadFareTablePart _ => some 15 | .armStagedFareTable _ => some 16
  | .dropStagedFareTable _ => some 17 | .readFareTableState _ => some 18 | .beginDenyListLoad _ => some 19
  | .putDenyListEntries _ => some 20 | .endDenyListLoad _ => some 21 | .addDenyListEntry _ => some 22
  | .deleteDenyListEntry _ => some 23 | .readDenyListState _ => some 24 | .readHotList _ => some 25
  | .clearHotListEntry _ => some 26 | .notePeerSighting _ => some 27 | .readSighting _ => some 28
  | .readJournal _ => some 29 | .releaseJournal _ => some 30 | .setNoticeMask _ => some 31 | .readStatus _ => some 32
  | .clearEvents _ => some 33 | .restart _ => some 34
  | _ => none

/-- A payload fits its request. -/
def isFit {α : Type} : Payload α → Bool
  | .fits _ => true
  | .misfit => false

/-- A request's payload passes the length test of R200 step 3: 128 bytes of data for `ftpart` (R181), 1 to 64 whole pairs of
five bytes for `gparm` (R203), the row's fields for any other. -/
def payloadFits : Instr → Bool
  | .setParameters bs => decide (bs.length % 5 = 0) && decide (5 ≤ bs.length) && decide (bs.length ≤ 320)
  | .loadFareTablePart (.fits f) => decide (f.bytes.length = 128)
  | .loadFareTablePart .misfit => false
  | .identifyPart p | .lockIdentity p | .readParameters p | .clearLeafFaults p | .alignTime p | .readTime p
  | .armStagedFareTable p | .dropStagedFareTable p | .readFareTableState p | .endDenyListLoad p | .readDenyListState p
  | .readStatus p | .restart p => isFit p
  | .setIdentity p => isFit p | .loadKey p => isFit p | .setGateMode p => isFit p | .setAisleDirection p => isFit p
  | .grantPassage p => isFit p | .setLeafTarget p => isFit p | .setTime p => isFit p | .beginDenyListLoad p => isFit p
  | .putDenyListEntries p => isFit p | .addDenyListEntry p => isFit p | .deleteDenyListEntry p => isFit p
  | .readHotList p | .clearHotListEntry p | .readSighting p | .releaseJournal p => isFit p
  | .notePeerSighting p => isFit p | .readJournal p => isFit p | .setNoticeMask p | .clearEvents p => isFit p
  | _ => true

/-- The lengths that a request's payload may have, by its kind (R200 step 3, section 11.5): the fixed fields' length; for
`ldkey` and `dlput`, the length that the presence byte or the count gives; for `gparm`, 1 to 64 pairs of five bytes.  The
sizes of the fields are log entry 51. -/
def lengthFits (kind : Nat) (bs : List Byte) : Bool :=
  match kind with
  | 2 => bs.length == 4
  | 4 => decide (2 ≤ bs.length) && (bs.length == (if field bs 1 1 = 0 then 2 else 19))
  | 5 => bs.length % 5 == 0 && decide (5 ≤ bs.length) && decide (bs.length ≤ 320)
  | 7 | 8 | 9 | 10 | 25 => bs.length == 1
  | 12 | 26 | 28 => bs.length == 7
  | 15 => bs.length == 129
  | 19 => bs.length == 6
  | 20 => decide (1 ≤ bs.length) && (bs.length == 1 + 8 * field bs 0 1)
  | 22 => bs.length == 12
  | 23 => bs.length == 11
  | 27 => bs.length == 21
  | 29 => bs.length == 5
  | 30 | 31 | 33 => bs.length == 4
  | _ => bs.length == 0

/-- The bytes of a payload spell the request: they hold its fields, or fit no fields where the request's payload does not. -/
def spelledBy : Instr → List Byte → Bool
  | .identifyPart p, bs | .lockIdentity p, bs | .readParameters p, bs | .clearLeafFaults p, bs | .alignTime p, bs
  | .readTime p, bs | .armStagedFareTable p, bs | .dropStagedFareTable p, bs | .readFareTableState p, bs
  | .endDenyListLoad p, bs | .readDenyListState p, bs | .readStatus p, bs | .restart p, bs => decide (emptyPayload bs = p)
  | .setIdentity p, bs => decide (identityPayload bs = p)
  | .loadKey p, bs => decide (keyPayload bs = p)
  | .setParameters q, bs => decide (pairsPayload bs = pairsPayload q)
  | .setGateMode p, bs => decide (modePayload bs = p)
  | .setAisleDirection p, bs => decide (aislePayload bs = p)
  | .grantPassage p, bs => decide (directionPayload bs = p)
  | .setLeafTarget p, bs => decide (leafPayload bs = p)
  | .setTime p, bs => decide (timePayload bs = p)
  | .loadFareTablePart p, bs => decide (partBytes bs = partPayload p)
  | .beginDenyListLoad p, bs => decide (loadPayload bs = p)
  | .putDenyListEntries p, bs => decide (entriesPayload bs = p)
  | .addDenyListEntry p, bs => decide (addPayload bs = p)
  | .deleteDenyListEntry p, bs => decide (deletePayload bs = p)
  | .readHotList p, bs => decide (indexPayload bs = p)
  | .clearHotListEntry p, bs | .readSighting p, bs => decide (numberPayload bs = p)
  | .notePeerSighting p, bs => decide (sightingPayload bs = p)
  | .readJournal p, bs => decide (rangePayload bs = p)
  | .releaseJournal p, bs => decide (sequencePayload bs = p)
  | .setNoticeMask p, bs | .clearEvents p, bs => decide (setPayload bs = p)
  | _, _ => false

/-- The port can take the request (R200): the oldest frame of the input queue, when there is one, spells it. -/
def State.takesRequest (s : State) (c : Instr) : Bool :=
  match requestKindOf c with
  | some kind => s.portTakes kind (spelledBy c)
  | none => false

/-- The 520 is in service and the port can take the request (R200). -/
def State.serves (s : State) (c : Instr) : Prop := s.phase = .running ∧ s.takesRequest c = true

/-- The frame has been taken and its reply queued, and nothing else has happened. -/
def State.replied (s : State) (kind : Byte) (st : Status) (data : ReplyData) : State := s.dropFrame.reply kind st data

/-- Commands carried out one after the other. -/
def execAll : List Instr → State → Answer
  | [], s => .next s
  | c :: cs, s =>
    match exec c s with
    | .next t => execAll cs t
    | .fault e => .fault e
    | .refused e => .refused e

/-! ## Blocks -/

/-- The blocks of the state. -/
inductive Block where
  | time | draws | power | warning | clock | link | cards | check | recovery | fare | aisle | drive | journal | store
  | station | loader | settings
  deriving DecidableEq, Repr

/-- Two states agree in a block. -/
def Block.same (b : Block) (s t : State) : Prop :=
  match b with
  | .time => t.now = s.now
  | .draws => t.free = s.free
  | .power => t.phase = s.phase ∧ t.scanStep = s.scanStep ∧ t.scanWork = s.scanWork
  | .warning => t.supplyWarning = s.supplyWarning
  | .clock => t.clock = s.clock
  | .link => t.link = s.link
  | .cards => t.cards = s.cards
  | .check => t.check = s.check
  | .recovery => t.recovery = s.recovery
  | .fare => t.fare = s.fare
  | .aisle => t.aisle = s.aisle
  | .drive => t.drive = s.drive
  | .journal => t.journal = s.journal
  | .store => t.store = s.store
  | .station => t.station = s.station
  | .loader => t.loader = s.loader
  | .settings => t.settings = s.settings

/-- The blocks that a reset rebuilds; time, the supply-warning line and the clock go on (R135, R213). -/
def Block.resetBy : List Block :=
  [.draws, .power, .link, .cards, .check, .recovery, .fare, .aisle, .drive, .journal, .store, .station, .loader,
   .settings]

/-- The blocks that a command may change, by the rules that own it. -/
def blocksOf : Instr → List Block
  | .identifyPart _ | .readParameters _ | .readTime _ | .readFareTableState _ | .readDenyListState _ | .readHotList _
  | .readJournal _ | .setNoticeMask _ | .readStatus _ | .clearEvents _ | .restart _ | .unknownKind _ | .wholeFrame _
  | .lengthFieldDiscard _ | .linkByteReceived _ => [.link]
  | .setIdentity _ => [.link, .station, .cards, .store, .journal]
  | .lockIdentity _ => [.link, .station, .store, .journal]
  | .loadKey _ | .clearHotListEntry _ | .notePeerSighting _ => [.link, .check, .store, .journal]
  | .setParameters _ => [.link, .settings, .recovery, .aisle, .drive, .cards, .store, .journal]
  | .setAisleDirection _ | .pendingSettingsTakeEffect => [.link, .settings, .aisle, .drive, .cards, .store, .journal]
  | .setGateMode _ => [.link, .aisle, .drive, .cards, .store, .journal]
  | .grantPassage _ => [.link, .aisle, .drive, .store, .journal]
  | .setLeafTarget _ => [.link, .aisle, .drive]
  | .clearLeafFaults _ => [.link, .drive]
  | .setTime _ | .alignTime _ => [.link, .clock, .recovery, .cards, .fare, .loader, .journal, .store]
  | .loadFareTablePart _ | .beginDenyListLoad _ | .putDenyListEntries _ => [.link, .loader]
  | .armStagedFareTable _ | .dropStagedFareTable _ => [.link, .loader, .store, .journal]
  | .endDenyListLoad _ => [.link, .loader, .store, .journal]
  | .addDenyListEntry _ | .deleteDenyListEntry _ | .denyListLoadTest => [.link, .check, .loader, .store, .journal]
  | .readSighting _ => [.link, .check]
  | .releaseJournal _ => [.link, .journal, .store]
  | .gapLimitExpiry => [.time, .link]
  | .messageSent | .powerOn | .supplyDip | .resetLine | .mainSupplyLoss => Block.resetBy
  | .resetEnd => [.power, .clock, .aisle, .drive]
  | .startUpScanStepEnd => [.power, .link, .station, .check, .settings, .aisle, .fare, .loader, .journal, .store]
  | .startUpScanEnd => [.fare, .loader, .power, .link, .settings, .aisle, .drive, .cards, .journal, .store]
  | .scanProgramComplete _ => [.power, .link, .store, .journal, .draws]
  | .cardPresent _ | .collision _ => [.cards]
  | .cardRemoved _ => [.fare, .loader, .cards, .link, .aisle, .journal, .store]
  | .sessionStart _ => [.cards, .link]
  | .identifyAnswer _ _ => [.fare, .loader, .cards, .check, .link, .journal, .store, .draws]
  | .authenticateAnswer _ _ => [.fare, .loader, .cards, .check, .link, .aisle, .journal, .store, .draws]
  | .readAnswer _ _ => [.fare, .loader, .cards, .check, .recovery, .link, .aisle, .drive, .journal, .store]
  | .intentEntersStaging _ => [.cards, .link, .aisle, .journal, .store]
  | .pendingRecordEntersStaging _ => [.cards, .link, .journal, .store]
  | .writeAnswer _ _ | .blockAnswer _ _ | .queryAnswer _ _ =>
    [.fare, .loader, .cards, .check, .link, .aisle, .drive, .journal, .store]
  | .answerWindowExpiry _ => [.fare, .loader, .time, .cards, .link, .aisle, .journal, .store, .draws]
  | .outcomeDisplayExpiry _ => [.time, .cards]
  | .honourWindowExpiry _ => [.time]
  | .emergencyLineFilteredChange => [.time, .link, .aisle, .drive, .cards, .journal, .store]
  | .sensorRawChange _ _ _ => [.time, .aisle, .drive]
  | .beamFilteredChange _ | .creditExpiry => [.time, .link, .aisle, .drive, .journal, .store]
  | .closeDelayExpiry => [.time, .link, .aisle, .drive]
  | .loiter | .beamStuck _ => [.time, .link, .aisle]
  | .endSwitchFilteredChange _ _ | .deadtimeExpiry _ | .reopenHoldExpiry _ => [.time, .link, .drive]
  | .brakeIntervalExpiry _ | .motionLimitExpiry _ | .inrushBlankingExpiry _ => [.time, .drive]
  | .currentSample _ _ => [.time, .drive]
  | .supplyWarningStart => [.warning, .link, .cards, .aisle, .drive, .store]
  | .supplyWarningEnd => [.warning, .link, .drive, .journal, .store]
  | .secondTick => [.time, .clock, .recovery, .link, .cards, .fare, .loader, .journal, .store]
  | .backupSupplyLoss => [.draws, .clock, .link, .cards]
  | .fareTableActivation => [.link, .cards, .fare, .loader, .journal, .store]
  | .storeOperationTimeout =>
    [.time, .draws, .power, .link, .cards, .recovery, .aisle, .journal, .store, .station, .loader, .fare]
  | .journalOperationComplete _ => [.fare, .loader, .draws, .link, .cards, .recovery, .aisle, .journal, .store]
  | .floorProgramComplete _ | .hotListRewriteComplete _ | .controlRecordWriteComplete _ | .deltaSlotProgramComplete _
  | .withdrawalComplete _ => [.draws, .link, .journal, .store]
  | .journalSectorEraseComplete _ => [.draws, .link, .recovery, .journal, .store]
  | .lockEntryProgramComplete _ => [.draws, .link, .station, .journal, .store]
  | .armJobOperationComplete _ => [.fare, .cards, .draws, .link, .loader, .journal, .store]
  | .fareMarkJobComplete _ | .bankJobOperationComplete _ | .denyMarkJobComplete _
  | .logEraseComplete _ => [.draws, .link, .loader, .journal, .store]

/-! ## Sessions (R6, R16) -/

/-- The reader's session has sent WRITE or BLOCK, and its answer is awaited (R16). -/
def State.cardWriteSent (s : State) (r : Reader) : Prop :=
  match (s.session r).exchange with
  | some (.write _ _) => True
  | some (.block _) => True
  | _ => False

/-- An outstanding IDENTIFY stands in IDENTIFYING only (R3, R9, R10). -/
def Session.identifyFits (x : Session) : Prop := x.exchange = some .identify → x.state = .identifying

/-- The reader whose session a command is about, and no other's. -/
def readerOfCommand (s : State) : Instr → Option Reader
  | .cardPresent l | .collision l | .cardRemoved l | .authenticateAnswer l _ | .readAnswer l _ | .writeAnswer l _
  | .blockAnswer l _ | .queryAnswer l _ => some (s.readerAt l)
  | .sessionStart r | .intentEntersStaging r | .pendingRecordEntersStaging r | .answerWindowExpiry r
  | .outcomeDisplayExpiry r => some r
  | _ => none

/-- The leaf that a command is about, and no other. -/
def leafOfCommand : Instr → Option LeafSide
  | .endSwitchFilteredChange side _ | .deadtimeExpiry side | .brakeIntervalExpiry side | .motionLimitExpiry side
  | .inrushBlankingExpiry side | .currentSample side _ | .reopenHoldExpiry side => some side
  | _ => none

/-- The other leaf. -/
def otherLeaf : LeafSide → LeafSide
  | .left => .right
  | .right => .left

end Sys2Proof.Machine
end

