-- ==== Sys2Proof/Certificates/Slice0/Obligations.lean ====
section
/-! DEFINITION. The statements for the provers.

Each says what a command, a shared operation or the whole machine does by the numbered rules of the manual.  Every
statement of a command's effect is also its completion: its conclusion is that `exec` answers a next state.  What a
command leaves alone is said once for all commands by `CommandsTouchOnlyTheirBlocks`, and within a block by the
equations themselves. -/

open Sys2Proof Sys2Proof.Machine

/-! ## The machine -/

/-- A step carries out the front command with the queue's rest waiting; with no command waiting one microsecond passes
(the model's choice, log entry 12). -/
def Obligations.StepRunsTheFrontCommand : Prop :=
  (∀ (c : Instr) (rest : List Instr) (s : State), s.pending = c :: rest → step s = exec c { s with pending := rest }) ∧
  ∀ s : State, s.pending = [] → step s = .next { s with now := s.now + 1 }

/-- Every command answers a next state, and leaves the commands that wait behind it.
That the waiting commands stand outside the block, and outlast a reset, is the model's choice, log entry 43. -/
def Obligations.EveryCommandKeepsTheQueue : Prop :=
  ∀ (c : Instr) (s : State), ∃ t, exec c s = .next t ∧ t.pending = s.pending

/-- A command changes no block but those that its rules name; a session's command leaves the other reader's session, but for
a reader that the first active table opens; and a leaf's command leaves the other leaf and the target in force. -/
def Obligations.CommandsTouchOnlyTheirBlocks : Prop :=
  (∀ (c : Instr) (s t : State) (b : Block), exec c s = .next t → b ∉ blocksOf c → b.same s t) ∧
  (∀ (c : Instr) (r : Reader) (s t : State), readerOfCommand s c = some r → exec c s = .next t →
    t.session (otherReader r) = s.session (otherReader r) ∨
    (s.fare = none ∧ t.fare ≠ none ∧
      t.session (otherReader r) = (s.session (otherReader r)).follow (t.readerShut (otherReader r)))) ∧
  ∀ (c : Instr) (side : LeafSide) (s t : State), leafOfCommand c = some side → exec c s = .next t →
    t.drive.leaf (otherLeaf side) = s.drive.leaf (otherLeaf side) ∧ t.drive.inForce = s.drive.inForce

/-! ## The Control Link Port -/

/-- During the scan every request but `ident` and `stat` is answered STARTING, whatever its payload; any other payload that
does not fit is answered BAD_LENGTH before the owning rule is asked.  Every frame of a request kind spells a command, the
command's payload fits exactly when the frame's has the length of the request, and a command that the oldest frame does not
spell is not taken.
That a command stands for the port taking a frame, and the sizes of the fields, are the model's choices, log entries 10
and 51. -/
def Obligations.RequestsBeforeTheirRule : Prop :=
  (∀ (c : Instr) (kind : Byte) (s : State), requestKindOf c = some kind → kind ≠ 1#8 → kind ≠ 32#8 →
    s.phase = .scanning → s.takesRequest c = true → exec c s = .next (s.replied kind .starting .none)) ∧
  (∀ (c : Instr) (kind : Byte) (s : State), requestKindOf c = some kind → payloadFits c = false →
    (s.phase = .scanning → kind = 1#8 ∨ kind = 32#8) → s.takesRequest c = true →
    exec c s = .next (s.replied kind .badLength .none)) ∧
  (∀ (c : Instr) (kind : Byte) (bs : List Byte), requestKindOf c = some kind → spelledBy c bs = true →
    payloadFits c = lengthFits kind.toNat bs) ∧
  (∀ (kind : Byte) (bs : List Byte), 1 ≤ kind.toNat → kind.toNat ≤ 34 →
    ∃ c, requestKindOf c = some kind ∧ spelledBy c bs = true) ∧
  ∀ (c : Instr) (f : Frame) (rest : List Frame) (s : State), (requestKindOf c).isSome = true →
    s.link.input = f :: rest → requestKindOf c ≠ some f.kind ∨ spelledBy c f.payload = false → exec c s = .next s

/-- While 14 places are occupied or a restart is pending no frame is taken; a frame of a kind outside 1 to 34 that is
taken is answered UNKNOWN_KIND and has no other effect.
A command stands for the port taking a frame of its kind by the model's choice, log entry 10. -/
def Obligations.FramesWaitOrAreUnknown : Prop :=
  (∀ (c : Instr) (s : State), (requestKindOf c).isSome = true ∨ (∃ kind, c = .unknownKind kind) →
    14 ≤ s.link.output.length ∨ s.link.restartPending = true → exec c s = .next s) ∧
  ∀ (kind : Byte) (s : State), kind = 0#8 ∨ 34 < kind.toNat → s.portTakes kind (fun _ => true) = true →
    exec (.unknownKind kind) s = .next (s.replied kind .unknownKind .none)

/-- A message enters behind the others; a data notice enters while its kind is enabled and fewer than 12 places are
occupied, is dropped and counted when enabled at 12 or more, and is not handed on while disabled.  An event raised sets
its kind's flag and no other; a `natt` enters exactly when the flag was clear, its kind is enabled and no `natt` waits,
and takes the event set at once when nothing is being sent.
The moment a `natt` takes the event set is the model's inference, log entry 19. -/
def Obligations.MessagesAndEventsEnter : Prop :=
  (∀ (m : OutMessage) (l : LinkPort), m ≠ .natt none → l.output.head? ≠ some (.natt none) →
    l.enqueue m = { l with output := l.output ++ [m] }) ∧
  (∀ (bit : Nat) (m : OutMessage) (s : State), s.link.mask.getLsbD bit = false → s.notify bit m = s) ∧
  (∀ (bit : Nat) (m : OutMessage) (s : State), s.link.mask.getLsbD bit = true → s.link.output.length < 12 →
    s.notify bit m = { s with link := s.link.enqueue m }) ∧
  (∀ (bit : Nat) (m : OutMessage) (s : State), s.link.mask.getLsbD bit = true → 12 ≤ s.link.output.length →
    s.notify bit m = { s with link := { s.link with dropped := min (s.link.dropped + 1) 65535 } }) ∧
  ∀ (k : EventKind) (s : State),
    (∀ j : EventKind, (s.raise k).link.flag j = (s.link.flag j || decide (j = k))) ∧
    s.raise k = { s with link := { s.link with events := (s.raise k).link.events, output := (s.raise k).link.output } } ∧
    (s.link.flag k = true ∨ s.link.mask.getLsbD k.bit = false ∨ .natt none ∈ s.link.output →
      (s.raise k).link.output = s.link.output) ∧
    (s.link.flag k = false → s.link.mask.getLsbD k.bit = true → .natt none ∉ s.link.output →
      (s.raise k).link.output =
        s.link.output ++ [.natt (if s.link.output = [] then some (s.raise k).link.events else none)])

/-- The receiver hunts past every byte but the sync byte, and discards a frame whose length field is 0 or above 641, whose
gap limit runs out, or whose check does not match; each discard counts once.
How an expiry moves the time is the model's choice, log entry 28. -/
def Obligations.ReceiverDiscards : Prop :=
  ∀ (b : Byte) (s : State), s.phase.linkRuns = true →
    let discarded : State :=
      { s with link := { s.link with receiver := .hunting, gap := none, discarded := min (s.link.discarded + 1) 65535 } }
    (s.link.receiver = .hunting → b ≠ 0xC3#8 → exec (.linkByteReceived b) s = .next s) ∧
    (s.link.receiver = .hunting → exec (.linkByteReceived 0xC3#8) s =
      .next { s with link := { s.link with receiver := .inFrame [], gap := some (s.now + 50000) } }) ∧
    (∀ a : Byte, s.link.receiver = .inFrame [a] → leNat [a, b] = 0 ∨ 641 < leNat [a, b] →
      exec (.lengthFieldDiscard b) s = .next discarded) ∧
    (∀ d : Nat, s.link.gap = some d →
      exec .gapLimitExpiry s = .next { discarded with now := max s.now d }) ∧
    ∀ bs : List Byte, s.link.receiver = .inFrame bs → 4 ≤ bs.length → bs.length + 1 = field bs 0 2 + 4 →
      field (bs ++ [b]) (bs.length - 1) 2 ≠ crc16 (bs.take (bs.length - 1)) → exec (.wholeFrame b) s = .next discarded

/-- The bytes of any frame of 0 to 640 payload bytes, taken one after the other by a hunting receiver, put exactly that
frame at the end of the input queue; a fifth frame is lost with LINK_OVERRUN.  The last byte alone does either for a
receiver that holds the others. -/
def Obligations.WholeFrameIsReceived : Prop :=
  (∀ (f : Frame) (s : State), s.phase.linkRuns = true → s.link.receiver = .hunting → f.payload.length ≤ 640 →
    (s.link.input.length < 4 → execAll (f.onLine.map .linkByteReceived) s =
      .next { s with link := { s.link with gap := none, input := s.link.input ++ [f] } }) ∧
    (4 ≤ s.link.input.length → execAll (f.onLine.map .linkByteReceived) s =
      .next ({ s with link := { s.link with gap := none } }.raise .linkOverrun))) ∧
  ∀ (f : Frame) (bs : List Byte) (b : Byte) (s : State), s.phase.linkRuns = true → f.payload.length ≤ 640 →
    f.onLine = 0xC3#8 :: (bs ++ [b]) → s.link.receiver = .inFrame bs →
    (s.link.input.length < 4 → exec (.wholeFrame b) s =
      .next { s with link := { s.link with receiver := .hunting, gap := none, input := s.link.input ++ [f] } }) ∧
    (4 ≤ s.link.input.length → exec (.wholeFrame b) s =
      .next ({ s with link := { s.link with receiver := .hunting, gap := none } }.raise .linkOverrun))

/-- The last byte of the oldest message frees its place, and a `natt` that comes to the head takes the event set; the
last byte of the DONE reply of a pending `rstrt` begins the restart.  While the link runs the oldest message is sent as one
frame: its kind is the reply's or the notice's, a reply's payload begins with the code of its status, and a `natt` carries
the event set as it stood when its transmission began.
The sizes and the order of a notice's fields are the model's choice, log entry 51. -/
def Obligations.MessageSentFreesItsPlace : Prop :=
  ∀ (m : OutMessage) (rest : List OutMessage) (s : State), s.link.output = m :: rest →
    (s.link.restartPending = false ∨ (∀ d, m ≠ .reply 0xA2#8 .done d) → exec .messageSent s =
      .next { s with link := { s.link with output :=
        match rest with
        | .natt none :: others => .natt (some s.link.events) :: others
        | others => others } }) ∧
    (s.link.restartPending = true → (∃ d, m = .reply 0xA2#8 .done d) →
      exec .messageSent s = .next (s.beginReset .restart) ∧ (s.beginReset .restart).check.sightings = s.check.sightings) ∧
    (s.phase.linkRuns = true →
      s.transmitted = 0xC3#8 :: withCrc16 (leBytes 2 (1 + m.payload.length) ++ m.kind :: m.payload)) ∧
    (∀ kind st d, m = .reply kind st d → m.kind = kind ∧ m.payload.tail = d.bytes ∧
      ([Status.done, .clamped, .busy, .starting, .unknownKind, .badLength, .badValue, .notInMode, .locked, .full,
        .notFound, .version, .order, .stale, .incomplete, .badTable, .aisleBusy])[(m.payload.headD 0xFF#8).toNat]? = some st) ∧
    (∀ r n o c b, m = .nout r n o c b → m.kind = 0x40#8) ∧ (∀ d src n x, m = .npas d src n x → m.kind = 0x41#8) ∧
    (∀ n c w d x, m = .nsig n c w d x → m.kind = 0x42#8) ∧
    ∀ set : BitVec 32, m = .natt (some set) → m.kind = 0x43#8 ∧ leNat m.payload = set.toNat ∧ m.payload.length = 4

/-! ## Reports -/

/-- `ident`, `stat`, `rparm`, `ftstat` and `dlstat` are answered DONE with their report, and nothing else happens.  `stat`
gives R212's items, `ftstat` R187's and `dlstat` R195's; a reader's indicator is the first of R21's list that applies, and
a STOP that only a COLLISION shows has the reason MULTIPLE_CARDS.
That a STOP shows before a SEE_STAFF is the model's choice, log entry 44; so is which mode a withheld admission shows
SEE_STAFF in, log entry 55; that the code is a function of the state, log entry 26; what `stat` reads before the journal
scan, log entry 17, and before the scan has read the lock, log entry 60; which jobs wait, log entry 59. -/
def Obligations.ReportsAnswerDone : Prop :=
  (∀ s : State,
    let stored := s.station.identity.isSome &&
      decide ((recordInForce s.store.memory 0 .identity).map (fun r => identityOf r.body) = s.station.identity)
    let step := if s.phase = .scanning then some s.scanStep else none
    let journal := if s.phase = .scanning then { Journal.initial with floor := s.journal.floor } else s.journal
    let leaf := fun (l : Leaf) => ({
      state := l.state, bridge := l.bridge, count := l.count, openSwitch := l.openSwitch.level,
      closedSwitch := l.closedSwitch.level, mean := if l.window.length = 8 then l.window.sum / 8 else 0,
      reopenRuns := l.reopen.isSome, lastOpen := l.lastOpen, lastClose := l.lastClose } : LeafReport)
    let jobs := if s.store.op.any fun o => decide (o.owner = .job) then s.store.jobs.tail else s.store.jobs
    (s.takesRequest (.identifyPart (.fits ())) = true →
      exec (.identifyPart (.fits ())) s = .next (s.replied 1#8 .done (.ident
        { part := 520, revision := 1, scanStep := step, identity := s.station.identity, stored := stored,
          lock := s.station.lock }))) ∧
    (s.takesRequest (.readStatus (.fits ())) = true →
      exec (.readStatus (.fits ())) s = .next (s.replied 32#8 .done (.status
        { cause := s.link.cause, scanStep := step, events := s.link.events, mask := s.link.mask,
          discarded := s.link.discarded, dropped := s.link.dropped, inputFrames := s.link.input.length - 1,
          identity := s.station.identity, identityStored := stored, lock := s.station.lock, lockSpent := s.station.spent,
          key0 := s.check.key0.map (·.version), key1 := s.check.key1.map (·.version),
          readerU := ((s.session .U).state, s.indicator .U), readerP := ((s.session .P).state, s.indicator .P),
          mode := s.aisle.mode, returnMode := s.aisle.returnMode, hostEmergency := s.aisle.hostEmergency,
          emergencyLine := s.aisle.emergencyLine.level, claim := s.aisle.claim, credits := s.aisle.credits,
          trackPhase := s.aisle.phase, inboundCount := s.aisle.inboundCount, outboundCount := s.aisle.outboundCount,
          unpaidCount := s.aisle.unpaidCount, stuckBeams := [Beam.A, .S, .B].filter fun b => (s.aisle.beam b).stuck,
          left := leaf s.drive.left, right := leaf s.drive.right, clockValid := s.clock.valid,
          recoveryCount := s.recovery.length, freePositions := journal.freePositions,
          unreleased := journal.unreleased.length, nextSeq := journal.nextSeq, floor := journal.floor,
          stagingEntries := journal.staging.length, reservations := journal.reservations,
          freeEntries := 8 - journal.staging.length - journal.reservations,
          opInProgress := s.store.op.map fun o => o.action.kind, suspended := s.store.op.isSome && s.supplyWarning,
          jobsWaiting := jobs.map (·.kind), faultCount := s.store.faultCount, latestFault := s.store.latestFault }))) ∧
    (s.serves (.readParameters (.fits ())) → ∃ items, exec (.readParameters (.fits ())) s =
        .next (s.replied 6#8 .done (.settings items s.aisle.direction s.aisle.pendingDirection)) ∧
      items.length = 29 ∧ ∀ i, 1 ≤ i → i ≤ 29 → items[i - 1]? = some
        { id := i, inForce := s.settings.inForce.get i,
          pending := if i ∈ s.settings.pending then some (s.settings.stored.get i) else none }) ∧
    (s.serves (.readFareTableState (.fits ())) → ∃ held : List Nat, (∀ i, i ∈ held ↔ s.loader.parts.getD i none ≠ none) ∧
      let image : Option (List Byte) := match s.loader.staged with
        | .empty => none
        | .arming x => some x
        | .armed x => some x
      exec (.readFareTableState (.fits ())) s = .next (s.replied 18#8 .done (.fareTable
        { activeVersion := s.fare.map (·.version), activeEffective := s.fare.map (·.effective),
          activeBank := s.loader.activeBank, stagingBank := s.loader.stagingBank, markPending := s.loader.markPending,
          staged := (match s.loader.staged with
            | .arming _ => .arming
            | .armed _ => .armed
            | .empty => if 0 ∈ held then .uploading else .empty),
          stagedVersion := image.map fun x => field x 0 4, stagedEffective := image.map fun x => field x 4 4,
          parts := held }))) ∧
    (s.serves (.readDenyListState (.fits ())) → exec (.readDenyListState (.fits ())) s = .next (s.replied 24#8 .done (.deny
      { version := s.check.denyVersion, count := s.check.denyList.length, markedBank := s.loader.markedBank,
        logUse := s.loader.logUse, load := s.loader.load,
        stagedVersion := if s.loader.load = .idle then none else some s.loader.listVersion,
        declared := if s.loader.load = .idle then none else some s.loader.listCount,
        received := if s.loader.load = .idle then none else some s.loader.list.length })))) ∧
  ∀ (r : Reader) (s : State),
    let x := s.session r
    let shown : Option Indicator :=
      if x.state = .holdoff ∧ x.display.isSome = true then x.outcome.map fun o =>
        if o ∈ [CardOutcome.admittedEntry, .admittedExit, .honoured, .emergencyExit] then
          (if x.withheld = true ∧ s.aisle.mode = .outOfService then .seeStaff else .go)
        else if o ∈ [CardOutcome.noEntry, .cardBlocked, .cardExhausted, .keyUnknown, .denyListed, .cloneListed,
            .cloneDetected, .counterfeit, .cardDataError, .torn] then .seeStaff
        else .stop
      else none
    s.indicator r = (
      if x.state = .closed then .closed
      else if shown = some .stop ∨ x.collision ≠ none then .stop
      else if shown = some .seeStaff then .seeStaff
      else if x.state ≠ .ready ∧ x.state ≠ .holdoff then .busy
      else if shown = some .go ∨ (∃ c ∈ s.aisle.credits, c.state = .active ∧ c.reader = some r ∧ c.source = .card) then .go
      else if x.state = .ready ∧ s.paused r = true then .wait
      else .ready) ∧
    s.indication r = { code := s.indicator r,
                       reason := if s.indicator r = .stop ∧ shown ≠ some .stop then some .multipleCards else none }

/-- `rtime` reports the one count it reads: its fare minute, the calendar date and time whose count it is, its weekday,
and the service day and band that the active table gives. -/
def Obligations.ReadTimeDescribesOneCount : Prop :=
  ∀ s : State, s.serves (.readTime (.fits ())) → s.clock.seconds ≤ 3155673599 →
    ∃ r : TimeReport, exec (.readTime (.fits ())) s = .next (s.replied 14#8 .done (.time r)) ∧
      r.valid = s.clock.valid ∧ r.atLimit = decide (s.clock.seconds = 3155673599) ∧ r.seconds = s.clock.seconds ∧
      r.minute = s.clock.seconds / 60 ∧ badDateField r.calendar = none ∧ countOf r.calendar = s.clock.seconds ∧
      r.weekday = (s.clock.seconds / 86400 + 6) % 7 ∧
      r.serviceDay = s.fare.map (fun t => (s.clock.seconds / 60 - 60 * t.rollover) / 1440) ∧
      r.band = s.fare.map (fun t => bandFor t.schedule (s.clock.seconds / 60))

/-! ## Identity, keys and settings -/

/-- `setid`, `lockid` and `ldkey`, each refused in the order of its rule, or answered DONE with its effect; `ldkey` replaces
or empties the slot named, and the two slots never hold one version afterwards. -/
def Obligations.IdentityAndKeyRequests : Prop :=
  (∀ (i : Identity) (s : State), s.serves (.setIdentity (.fits i)) → exec (.setIdentity (.fits i)) s = .next (
    if s.station.lock ≠ .unlocked then s.replied 2#8 .locked .none
    else if s.aisle.mode ≠ .outOfService then s.replied 2#8 .notInMode .none
    else if (s.session .U).state ≠ .closed ∨ (s.session .P).state ≠ .closed then s.replied 2#8 .busy .none
    else if ¬ (1 ≤ i.station ∧ i.station ≤ 4095 ∧ 1 ≤ i.gate ∧ i.gate ≤ 63 ∧ i.zone ≤ 15) then
      s.replied 2#8 .badValue .none
    else (({ s.replied 2#8 .done .none with
      station := { s.station with identity := some i } }.followReaders).queueControl .identity).startStore)) ∧
  (∀ s : State, s.serves (.lockIdentity (.fits ())) → exec (.lockIdentity (.fits ())) s = .next (
    if s.station.lock ≠ .unlocked then s.replied 3#8 .locked .none
    else if s.station.identity = none then s.replied 3#8 .incomplete .none
    else if 4 ≤ s.station.nextLock then s.replied 3#8 .full .none
    else ({ s.replied 3#8 .done .none with station := { s.station with lock := .pending } }.queueJob .lockEntry).startStore)) ∧
  ∀ (f : KeyFields) (s : State), s.serves (.loadKey (.fits f)) →
    let other := if f.slot = 0 then s.check.key1 else s.check.key0
    let refused : Option Status :=
      if s.aisle.mode ≠ .outOfService then some .notInMode
      else if 1 < f.slot ∨ 1 < f.presence then some .badValue
      else if f.presence = 1 ∧ other.map (·.version) = some f.version then some .badValue
      else none
    (∀ st, refused = some st → exec (.loadKey (.fits f)) s = .next (s.replied 4#8 st .none)) ∧
    (refused = none →
      let slot := if f.presence = 1 then some ({ version := f.version, key := f.key } : KeySlot) else none
      let k0 : Option KeySlot := if f.slot = 0 then slot else s.check.key0
      let k1 : Option KeySlot := if f.slot = 0 then s.check.key1 else slot
      exec (.loadKey (.fits f)) s = .next (({ s.replied 4#8 .done (.keyVersions (k0.map KeySlot.version) (k1.map KeySlot.version))
        with check := { s.check with key0 := k0, key1 := k1 } }.queueControl .key).startStore) ∧
      (k0 = none ∨ k1 = none ∨ k0.map KeySlot.version ≠ k1.map KeySlot.version))

/-- `gparm`: the refusals in order, and the reply, the stored values and the SETTINGS write of a request that is taken; the
values of identifiers 1 to 5 go into force at once, the others are pending while the settings hold stands.
That the reply enters the output queue before the step's notices is the model's inference, log entry 19; how it names an
identifier given twice is log entry 49, and that identifiers 1, 3 and 4 are in force at once log entry 64. -/
def Obligations.SetParametersTakesAllOrNone : Prop :=
  ∀ (bs : List Byte) (ps : List (Nat × Nat)) (s : State), s.serves (.setParameters bs) → settingPairs bs = some ps →
    1 ≤ ps.length → ps.length ≤ 64 →
    let refused : Option Status :=
      if ps.any (fun q => !(decide (1 ≤ q.1) && decide (q.1 ≤ 29))) then some .badValue
      else if ps.any (fun q => q.1 == 2 || (decide (22 ≤ q.1) && decide (q.1 ≤ 29))) = true ∧ s.aisle.mode ≠ .outOfService then
        some .notInMode
      else if ps.any (fun q => q.1 == 2) = true ∧ ((s.session .U).state ≠ .closed ∨ (s.session .P).state ≠ .closed) then
        some .busy
      else if ps.any badCode then some .badValue
      else none
    (∀ st, refused = some st → exec (.setParameters bs) s = .next (s.replied 5#8 st .none)) ∧
    (refused = none → ∃ t, exec (.setParameters bs) s = .next t ∧
      (∀ id, t.settings.stored.get id =
        match ps.reverse.find? (fun q => q.1 == id) with
        | some q => storedValue q
        | none => s.settings.stored.get id) ∧
      (∃ rest, t.link.output = (s.replied 5#8 (if ps.any (fun q => storedValue q != q.2) then .clamped else .done)
        (.storedValues (ps.map fun q => (q.1, t.settings.stored.get q.1)))).link.output ++ rest) ∧
      ((∃ id, t.settings.stored.get id ≠ s.settings.stored.get id) → ∃ j ∈ t.store.jobs, j.kind = .control .settings) ∧
      (∀ q ∈ ps, 1 ≤ q.1 → q.1 ≤ 5 → t.settings.inForce.get q.1 = t.settings.stored.get q.1) ∧
      ((∃ q ∈ ps, q.1 = 5) → t.recovery = s.recovery.filter fun e =>
        decide (s.clock.seconds / 60 - e.minute ≤ t.settings.inForce.recoveryLifetime)) ∧
      (s.holdMet = false → ∀ q ∈ ps, 6 ≤ q.1 → q.1 ∈ t.settings.pending ∧
        t.settings.inForce.get q.1 = s.settings.inForce.get q.1))

/-! ## Mode, direction, passage and leaf requests -/

/-- `gmode` and `adir`: BAD_VALUE for a value outside the row's, otherwise DONE, the mode by the line, the host request and
the return mode, and the direction pending until the settings hold lets it take effect.  A change to EMERGENCY or
OUT_OF_SERVICE interrupts the sessions, withholds their credits and records the oldest ACTIVE CARD credit UNUSED with reason
MODE; a change to EMERGENCY raises its event; the leaf target is the new mode's, and MANUAL keeps the one in force.  A
direction that takes effect interrupts the excluded reader's session, and both readers follow R7.
That the reply enters the output queue before the step's notices is the model's inference, log entry 19; NORMAL with S
blocked is log entry 42, and MANUAL's target during a supply warning log entry 16. -/
def Obligations.ModeAndDirectionRequests : Prop :=
  (∀ s : State, s.serves (.setGateMode (.fits none)) → exec (.setGateMode (.fits none)) s = .next (s.replied 7#8 .badValue .none)) ∧
  (∀ s : State, s.serves (.setAisleDirection (.fits none)) → exec (.setAisleDirection (.fits none)) s = .next (s.replied 8#8 .badValue .none)) ∧
  (∀ (m : GateMode) (s : State), s.serves (.setGateMode (.fits (some m))) → ∃ t, exec (.setGateMode (.fits (some m))) s = .next t ∧
    (∃ rest, t.link.output = (s.replied 7#8 .done .none).link.output ++ rest) ∧
    t.aisle.hostEmergency = decide (m = .emergency) ∧
    t.aisle.returnMode = (if m = .emergency then s.aisle.returnMode else m) ∧
    t.aisle.mode = (if s.aisle.emergencyLine.level = true ∨ m = .emergency then .emergency else m) ∧
    (t.aisle.mode ≠ s.aisle.mode → t.aisle.mode = .emergency ∨ t.aisle.mode = .outOfService →
      t.aisle.credits = [] ∧ t.aisle.window = .stopped ∧ t.aisle.closeDelay = none ∧
      (t.aisle.claim = none ∨ t.aisle.phase ≠ .clear) ∧
      (∀ r, (s.session r).state = .identifying ∨ (s.session r).state = .authenticating ∨ (s.session r).state = .reading →
        (t.session r).state = .holdoff ∧ (t.session r).outcome = some .aborted ∧ (t.session r).exchange = none) ∧
      (∀ r, (s.session r).state = .awaitIntent ∨ (s.session r).state = .writing ∨ (s.session r).state = .querying →
        (t.session r).state = (s.session r).state ∧
        (t.session r).withheld = ((s.session r).withheld || s.aisle.reserved r)) ∧
      (∀ c : Credit, s.aisle.credits.find? (fun c => c.isActive && decide (c.source = .card)) = some c →
        s.journal.room 1 = true → ∃ rec pos more, t.journal.staging = s.journal.staging ++ .record rec pos .single :: more ∧
          rec.kind = .unused ∧ rec.reason = 40 ∧ rec.referenced = some (c.seq.getD 0) ∧ rec.reader = readerOf c.direction)) ∧
    (t.aisle.mode ≠ s.aisle.mode →
      (t.aisle.mode = .emergency → t.aisle.target = .open ∧ t.link.flag .emergency = true) ∧
      (t.aisle.mode = .outOfService → t.aisle.target = .closed) ∧
      (t.aisle.mode = .manual → t.aisle.target = s.targetInForce) ∧
      (t.aisle.mode = .normal → (t.aisle.target = .closed ↔
        t.aisle.anyActive = false ∧ t.aisle.closeDelay = none ∧ t.aisle.beamS.line.level = false) ∧
        t.aisle.credits = s.aisle.credits ∧ t.aisle.claim = s.aisle.claim)) ∧
    (t.aisle.mode = s.aisle.mode → t = { s.replied 7#8 .done .none with
      aisle := { s.aisle with hostEmergency := t.aisle.hostEmergency, returnMode := t.aisle.returnMode } }.startStore)) ∧
  ∀ (d : AisleDirection) (s : State), s.serves (.setAisleDirection (.fits (some d))) → ∃ t, exec (.setAisleDirection (.fits (some d))) s = .next t ∧
    (∃ rest, t.link.output = (s.replied 8#8 .done .none).link.output ++ rest) ∧
    (s.holdMet = false → t.aisle = { s.aisle with pendingDirection := some d } ∧ t.cards = s.cards ∧
      t.link = (s.replied 8#8 .done .none).link) ∧
    (s.holdMet = true → t.aisle.direction = d ∧ t.aisle.pendingDirection = none ∧
      (∃ j ∈ t.store.jobs, j.kind = .control .settings) ∧
      ∀ r : Reader,
        let excluded := excludes d (directionOfReader r) = true
        let early := (s.session r).state = .identifying ∨ (s.session r).state = .authenticating ∨
          (s.session r).state = .reading
        (excluded → t.readerShut r = true ∧ (t.session r).state ≠ .ready) ∧
        (excluded → early → (t.session r).state = .holdoff ∧ (t.session r).outcome = some .aborted ∧
          (t.session r).exchange = none) ∧
        (¬ (excluded ∧ early) → t.session r = (s.session r).follow (t.readerShut r)))

/-- `grant`: decided in the order of its rule; a grant adds one ACTIVE STAFF credit, holds the claim, enters a GRANT
record and answers with its sequence number.
That a write position outside the CURRENT sector is no free position is the model's choice, log entry 62; that the reply
enters the output queue before the step's notices is its inference, log entry 19. -/
def Obligations.GrantAddsOneStaffCredit : Prop :=
  (∀ (q : Option Direction) (s : State), s.serves (.grantPassage (.fits q)) → s.aisle.mode ≠ .normal → s.aisle.mode ≠ .manual →
    exec (.grantPassage (.fits q)) s = .next (s.replied 9#8 .notInMode .none)) ∧
  (∀ s : State, s.serves (.grantPassage (.fits none)) → s.aisle.mode = .normal ∨ s.aisle.mode = .manual →
    exec (.grantPassage (.fits none)) s = .next (s.replied 9#8 .badValue .none)) ∧
  ∀ (d : Direction) (s : State), s.serves (.grantPassage (.fits (some d))) → s.aisle.mode = .normal ∨ s.aisle.mode = .manual →
    let room := s.journal.staging.length + s.journal.reservations < 8 ∧
      s.journal.sectors[s.journal.writePos / 64]? = some .current ∧ s.journal.nextSeq ≤ 4294967295
    (¬ room → exec (.grantPassage (.fits (some d))) s = .next (s.replied 9#8 .full .none)) ∧
    (room →
      (s.aisle.claim = some (otherWay d) →
        exec (.grantPassage (.fits (some d))) s = .next (s.replied 9#8 .aisleBusy .none)) ∧
      (s.aisle.claim = some d → s.settings.inForce.groupCredits ≤ s.aisle.credits.length →
        exec (.grantPassage (.fits (some d))) s = .next (s.replied 9#8 .full .none)) ∧
      (s.aisle.claim = none ∨ s.aisle.claim = some d ∧ s.aisle.credits.length < s.settings.inForce.groupCredits →
        ∃ t, exec (.grantPassage (.fits (some d))) s = .next t ∧
          t.aisle.credits = s.aisle.credits ++
            [{ direction := d, source := .staff, state := .active, seq := none, reader := none }] ∧
          t.aisle.claim = some d ∧ t.aisle.closeDelay = none ∧ t.journal.nextSeq = s.journal.nextSeq + 1 ∧
          (∃ rec pos, t.journal.staging = s.journal.staging ++ [.record rec pos .single] ∧ rec.kind = .grant ∧
            rec.seq = s.journal.nextSeq ∧ rec.reader = readerOf d ∧ rec.minute = s.minute ∧ rec.number = 0) ∧
          ∃ rest, t.link.output = (s.replied 9#8 .done (.sequence s.journal.nextSeq)).link.output ++ rest))

/-- `leaf` sets the MANUAL target and is refused outside MANUAL; `lclr` clears the leaves in STALLED or HELD_OPEN and
leaves every other leaf as it is.  A cleared leaf's reopen hold timer stops, and it goes to the end of the target in force,
the closed end under FREE, with no drive where its switch is active; one whose end switches are both active is STALLED again.
What a leaf does at its open end while a condition of R115 fails is the model's inference, log entry 21; so are the order of
the two refusals and the moment of the states in the reply, log entry 16, and that the
reply enters the output queue before the step's notices, log entry 19. -/
def Obligations.LeafRequests : Prop :=
  (∀ s : State, s.serves (.setLeafTarget (.fits none)) → exec (.setLeafTarget (.fits none)) s = .next (s.replied 10#8 .badValue .none)) ∧
  (∀ (q : LeafRequest) (s : State), s.serves (.setLeafTarget (.fits (some q))) → s.aisle.mode ≠ .manual →
    exec (.setLeafTarget (.fits (some q))) s = .next (s.replied 10#8 .notInMode .none)) ∧
  (∀ (q : LeafRequest) (s : State), s.serves (.setLeafTarget (.fits (some q))) → s.aisle.mode = .manual →
    let target := match q with | .open => Target.open | .close => .closed | .free => .free
    let taken : State :=
      { s.replied 10#8 .done (.leafStates s.drive.left.state s.drive.right.state) with
        aisle := { s.aisle with target := target } }
    exec (.setLeafTarget (.fits (some q))) s = .next (if s.supplyWarning then taken else taken.handAnew) ∧
    (s.supplyWarning = false → taken.handAnew.drive.inForce = target)) ∧
  ∀ s : State, s.serves (.clearLeafFaults (.fits ())) → ∃ t, exec (.clearLeafFaults (.fits ())) s = .next t ∧
    (∀ side, (s.drive.leaf side).faulted = false → t.drive.leaf side = s.drive.leaf side) ∧
    (∀ side, (s.drive.leaf side).faulted = true →
      (t.drive.leaf side).count = 0 ∧ ((t.drive.leaf side).reversal = true → (t.drive.leaf side).state = .opening) ∧
      (t.drive.leaf side).state ≠ .heldOpen ∧
      ((s.drive.leaf side).bothActive = true → (t.drive.leaf side).state = .stalled ∧ t.link.flag .leafStall = true ∧
        (t.drive.leaf side).reopen =
          if s.aisle.mode = .emergency then some (s.now + 1000 * s.settings.inForce.reopenHold) else none) ∧
      ((s.drive.leaf side).bothActive = false →
        let l := s.drive.leaf side
        let m := t.drive.leaf side
        let mayClose := s.aisle.beamS.line.level = false ∧ s.aisle.mode ≠ .emergency
        m.state ≠ .stalled ∧ m.reopen = none ∧
        (s.drive.inForce = .open → m.state = if l.openSwitch.level then .open else .opening) ∧
        (s.drive.inForce ≠ .open →
          (l.closedSwitch.level = true → m.state = .closed) ∧
          (l.closedSwitch.level = false → mayClose → m.state = .closing) ∧
          (l.closedSwitch.level = false → ¬ mayClose →
            (l.openSwitch.level = true → m.state = .open) ∧
            (l.openSwitch.level = false → m.state = .opening ∧ m.reversal = true))))) ∧
    ∃ rest, t.link.output = (s.replied 11#8 .done (.leavesCleared
      ((if s.drive.left.faulted then 1 else 0) + (if s.drive.right.faulted then 1 else 0))
      t.drive.left.state t.drive.right.state)).link.output ++ rest

/-! ## The clock -/

/-- `stime`: the first field outside its range is named; refused BUSY in a decision interval; otherwise the count is the
one whose calendar values are given, the clock is VALID, and the next second boundary is one second away.  `atime`:
refused BUSY while the clock is INVALID or a decision interval is open; otherwise the count moves to the nearest whole
minute, down in the calendar's last.
Both then test the ARMED fare table, which becomes the active one in the same step when it falls due.
For the calendar's last minute see log entry 38; that the reply enters the output queue before the notices of a table that
becomes active is the model's inference, log entry 19, and that the lifetime test drops entries still held with their marks
is its inference too, log entry 63. -/
def Obligations.SetAndAlignTime : Prop :=
  (∀ (d : DateTime) (s : State), s.serves (.setTime (.fits d)) →
    (∀ i, badDateField d = some i → exec (.setTime (.fits d)) s = .next (s.replied 12#8 .badValue (.badField i))) ∧
    (badDateField d = none → s.atBoundary = false → exec (.setTime (.fits d)) s = .next (s.replied 12#8 .busy .none)) ∧
    (badDateField d = none → s.atBoundary = true → ∃ n, n ≤ 3155673599 ∧ calendarOf n = d ∧
      exec (.setTime (.fits d)) s = .next
        ({ s.replied 12#8 .done (.timeSet n (n / 60) s.clock.seconds s.clock.valid
            (if s.clock.valid then some ((n : Int) - s.clock.seconds) else none)) with
          clock := { s.clock with seconds := n, valid := true, boundary := s.now + 1000000 },
          recovery := s.recovery.filter fun e => decide (n / 60 - e.minute ≤ s.settings.inForce.recoveryLifetime),
          journal := s.journal.heldWithin s.settings.inForce.recoveryLifetime (n / 60) }.followReaders.testDue.startStore))) ∧
  ∀ s : State, s.serves (.alignTime (.fits ())) →
    (s.clock.valid = false → exec (.alignTime (.fits ())) s = .next (s.replied 13#8 .busy .none)) ∧
    (s.clock.valid = true → s.atBoundary = false → exec (.alignTime (.fits ())) s = .next (s.replied 13#8 .busy .none)) ∧
    (s.clock.valid = true → s.atBoundary = true → ∃ n,
      (s.clock.seconds % 60 ≤ 29 → n + s.clock.seconds % 60 = s.clock.seconds) ∧
      (30 ≤ s.clock.seconds % 60 → s.clock.seconds / 60 ≠ 52594559 → n + s.clock.seconds % 60 = s.clock.seconds + 60) ∧
      (30 ≤ s.clock.seconds % 60 → s.clock.seconds / 60 = 52594559 → n + s.clock.seconds % 60 = s.clock.seconds) ∧
      n % 60 = 0 ∧
      exec (.alignTime (.fits ())) s = .next
        ({ s.replied 13#8 .done (.aligned n (n / 60) ((n : Int) - s.clock.seconds)) with
          clock := { s.clock with seconds := n, boundary := s.now + 1000000 },
          recovery := s.recovery.filter fun e => decide (n / 60 - e.minute ≤ s.settings.inForce.recoveryLifetime),
          journal := s.journal.heldWithin s.settings.inForce.recoveryLifetime (n / 60) }.testDue.startStore))

/-! ## The tables and the lists -/

/-- `ftpart`, `ftarm` and `ftdrop`: with no active table, bank A stages once nothing is ARMED.
That the bank being programmed stays the staging bank while a table is ARMING is log entry 54. -/
def Obligations.FareTableUploadRequests : Prop :=
  (∀ (f : FarePart) (s : State), s.serves (.loadFareTablePart (.fits f)) → f.bytes.length = 128 → s.loader.parts.length = 8 →
    let held := fun (ps : List (Option (List Byte))) => ReplyData.parts (heldParts ps)
    let placed := fun (ps : List (Option (List Byte))) =>
      { s.replied 15#8 .done (held (ps.set f.index (some f.bytes))) with
        loader := { s.loader with parts := ps.set f.index (some f.bytes) } }
    exec (.loadFareTablePart (.fits f)) s = .next (
      if 7 < f.index then s.replied 15#8 .badValue (held s.loader.parts)
      else if f.index = 0 then placed (List.replicate 8 none)
      else if s.loader.parts.head? = some none then s.replied 15#8 .order (held s.loader.parts)
      else placed s.loader.parts)) ∧
  (∀ s : State, s.serves (.armStagedFareTable (.fits ())) → s.loader.parts.length = 8 →
    let image := s.loader.parts.flatMap (·.getD [])
    let busy := s.loader.staged.isArming || s.loader.markPending
    let missing := (List.range 8).filter fun i => s.loader.parts.getD i none == none
    exec (.armStagedFareTable (.fits ())) s = .next (
      if busy then s.replied 16#8 .busy .none
      else if missing ≠ [] then s.replied 16#8 .incomplete (.missing missing)
      else
        match imageOffence image with
        | some o => s.replied 16#8 .badTable (.offset o)
        | none =>
          if s.fare.any fun t => decide (field image 0 4 ≤ t.version) then s.replied 16#8 .version .none
          else ({ s.replied 16#8 .done (.version (field image 0 4)) with
            loader := { s.loader with staged := .arming image, parts := List.replicate 8 none } }.queueJob
              (.arm s.loader.stagingBank)).startStore)) ∧
  ∀ s : State, s.serves (.dropStagedFareTable (.fits ())) →
    let dropped : State :=
      { s.replied 17#8 .done .none with
        loader := { s.loader with parts := List.replicate 8 none, staged := .empty,
                                  stagingBank := if s.loader.activeBank = none then .A else s.loader.stagingBank } }
    exec (.dropStagedFareTable (.fits ())) s = .next (
      if s.loader.staged.isArming then s.replied 17#8 .busy .none
      else if s.loader.staged.isArmed then (dropped.queueJob (.withdrawal s.loader.stagingBank)).startStore
      else dropped)

/-- `dlbeg`, `dlput` and `dlend`. -/
def Obligations.DenyListLoadRequests : Prop :=
  (∀ (h : LoadHeader) (s : State), s.serves (.beginDenyListLoad (.fits h)) → exec (.beginDenyListLoad (.fits h)) s = .next (
    if s.loader.load = .programming ∨ s.loader.load = .activating then s.replied 19#8 .busy .none
    else if 8192 < h.count then s.replied 19#8 .badValue .none
    else if h.version ≤ s.check.denyVersion then s.replied 19#8 .stale .none
    else { s.replied 19#8 .done .none with
      loader := { s.loader with load := .loading, list := [], listVersion := h.version, listCount := h.count } })) ∧
  (∀ (es : List DenyEntry) (s : State), s.serves (.putDenyListEntries (.fits es)) →
    let last := (s.loader.list.getLast?.map (·.number)).getD 0
    let all := s.loader.list ++ es
    let aborted : State := { s.replied 20#8 .order .none with
      loader := { s.loader with load := .idle, list := [], listVersion := 0, listCount := 0 } }
    exec (.putDenyListEntries (.fits es)) s = .next (
      if s.loader.load ≠ .loading then s.replied 20#8 .order .none
      else if es.length = 0 ∨ 32 < es.length ∨ (∃ e ∈ es, e.number = 0 ∨ 15 < e.reason) then
        s.replied 20#8 .badValue .none
      else if ¬ List.Pairwise (· < ·) (last :: es.map (·.number)) then aborted
      else if s.loader.listCount < all.length then aborted
      else { s.replied 20#8 .done (.count all.length) with loader := { s.loader with list := all } })) ∧
  ∀ s : State, s.serves (.endDenyListLoad (.fits ())) → exec (.endDenyListLoad (.fits ())) s = .next (
    if s.loader.load ≠ .loading then s.replied 21#8 .order .none
    else if s.loader.list.length < s.loader.listCount then s.replied 21#8 .incomplete (.count s.loader.list.length)
    else ({ s.replied 21#8 .done .none with loader := { s.loader with load := .programming } }.queueJob
      (.denyBank (match s.loader.markedBank with | some .A => .B | _ => .A))).startStore)

/-- `dladd` and `dldel`: refused in the order of their rule; an accepted delta changes the list by that one entry, raises
the version by one and queues its slot. -/
def Obligations.DenyListDeltas : Prop :=
  (∀ (f : DenyAdd) (s : State), s.serves (.addDenyListEntry (.fits f)) →
    let d : Delta := { add := true, number := f.number, reason := f.reason, version := s.check.denyVersion + 1 }
    exec (.addDenyListEntry (.fits f)) s = .next (
      if s.loader.load = .activating then s.replied 22#8 .busy .none
      else if s.loader.markedBank = none then s.replied 22#8 .order .none
      else if f.number = 0 ∨ 15 < f.reason then s.replied 22#8 .badValue .none
      else if f.expected ≠ s.check.denyVersion ∨ s.check.denyVersion = 4294967295 then
        s.replied 22#8 .version (.version s.check.denyVersion)
      else if 256 ≤ s.loader.logUse then s.replied 22#8 .full .none
      else if 8192 ≤ s.check.denyList.length then s.replied 22#8 .full .none
      else if ∃ e ∈ s.check.denyList, e.number = f.number then s.replied 22#8 .order .none
      else ({ s.replied 22#8 .done (.deltaTaken (s.check.denyVersion + 1) s.loader.logUse) with
        check := { s.check with denyList := insertDeny { number := f.number, reason := f.reason } s.check.denyList,
                                denyVersion := s.check.denyVersion + 1 },
        loader := { s.loader with logUse := s.loader.logUse + 1 } }.queueJob (.deltaSlot s.loader.logUse d)).startStore)) ∧
  ∀ (f : DenyDelete) (s : State), s.serves (.deleteDenyListEntry (.fits f)) →
    let d : Delta := { add := false, number := f.number, reason := 0, version := s.check.denyVersion + 1 }
    exec (.deleteDenyListEntry (.fits f)) s = .next (
      if s.loader.load = .activating then s.replied 23#8 .busy .none
      else if s.loader.markedBank = none then s.replied 23#8 .order .none
      else if f.number = 0 then s.replied 23#8 .badValue .none
      else if f.expected ≠ s.check.denyVersion ∨ s.check.denyVersion = 4294967295 then
        s.replied 23#8 .version (.version s.check.denyVersion)
      else if 256 ≤ s.loader.logUse then s.replied 23#8 .full .none
      else if ¬ ∃ e ∈ s.check.denyList, e.number = f.number then s.replied 23#8 .notFound .none
      else ({ s.replied 23#8 .done (.deltaTaken (s.check.denyVersion + 1) s.loader.logUse) with
        check := { s.check with denyList := s.check.denyList.filter (fun e => e.number != f.number),
                                denyVersion := s.check.denyVersion + 1 },
        loader := { s.loader with logUse := s.loader.logUse + 1 } }.queueJob (.deltaSlot s.loader.logUse d)).startStore)

/-! ## Screening -/

/-- `hlread`: the count and up to 32 entries from the index on, in detection order; BAD_VALUE above 63. -/
def Obligations.ReadHotListGivesEntriesInOrder : Prop :=
  ∀ (start : Nat) (s : State), s.serves (.readHotList (.fits start)) →
    (63 < start → exec (.readHotList (.fits start)) s = .next (s.replied 25#8 .badValue .none)) ∧
    (start ≤ 63 → ∃ es, exec (.readHotList (.fits start)) s =
        .next (s.replied 25#8 .done (.hotList s.check.hotList.length es)) ∧
      es.length = min 32 (s.check.hotList.length - start) ∧
      ∀ i, i < es.length → es[i]? = s.check.hotList[start + i]?)

/-- `hlclr` removes the entry named, or all for 0, and queues a rewrite; `sgnote` is refused, or applied in the first case
of R48 that holds, which its reply names.
That the reply enters the output queue before the step's notices is the model's inference, log entry 19. -/
def Obligations.HotListClearAndPeerSighting : Prop :=
  (∀ (n : Nat) (s : State), s.serves (.clearHotListEntry (.fits n)) → exec (.clearHotListEntry (.fits n)) s = .next (
    if n = 0 ∧ s.check.hotList = [] then s.replied 26#8 .done .none
    else if n ≠ 0 ∧ ¬ ∃ e ∈ s.check.hotList, e.number = n then s.replied 26#8 .notFound .none
    else ({ s.replied 26#8 .done .none with
      check := { s.check with hotList := s.check.hotList.filter fun e => n != 0 && e.number != n } }.queueRewrite).startStore)) ∧
  ∀ (p : PeerSighting) (s : State), s.serves (.notePeerSighting (.fits p)) →
    let good : Prop := p.number ≠ 0 ∧ p.counter ≤ 65535 ∧ (1 ≤ p.station ∧ p.station ≤ 4095) ∧ (1 ≤ p.gate ∧ p.gate ≤ 63) ∧
      p.minute ≤ 52594559 ∧ p.direction.isSome = true ∧ p.seenAt ≤ 3155673599
    (¬ good → exec (.notePeerSighting (.fits p)) s = .next (s.replied 27#8 .badValue .none)) ∧
    (good → s.clock.valid = false → exec (.notePeerSighting (.fits p)) s = .next (s.replied 27#8 .busy .none)) ∧
    (good → s.clock.valid = true → ∀ d, p.direction = some d → ∃ (q : SightingResult) (t : State),
      exec (.notePeerSighting (.fits p)) s = .next t ∧
      (∃ rest, t.link.output = (s.replied 27#8 .done (.sightingCase q)).link.output ++ rest) ∧
      let stamp : Stamp := { station := p.station, gate := p.gate, minute := p.minute }
      let own := s.station.identity.map (fun i => (i.station, i.gate)) = some (p.station, p.gate)
      let aged := fun (seenAt : Nat) => 60 * s.settings.inForce.sightingAge < s.clock.seconds - seenAt
      let entry := (s.check.sightings.find? fun e => e.number == p.number).filter fun e => !decide (aged e.seenAt)
      let after := t.check.sightings.find? fun e => e.number == p.number
      q = (if own then .own else if aged p.seenAt then .aged else
        match entry with
        | none => .inserted
        | some e => if e.counter < p.counter then .replaced else if p.counter < e.counter then .older
                    else if e.stamp = stamp then .refreshed else .diverged) ∧
      (own ∨ aged p.seenAt → t.check = s.check) ∧
      (q = .inserted ∨ q = .replaced → after = some
        { number := p.number, counter := p.counter, stamp := stamp, direction := d, seenAt := p.seenAt, source := .peer }) ∧
      (q = .refreshed → after = entry.map fun e => { e with seenAt := max e.seenAt p.seenAt }) ∧
      (q = .older ∨ q = .diverged → after = entry) ∧
      (q = .diverged → t.link.flag .cloneLate = true ∧ ∃ e ∈ t.check.hotList, e.number = p.number))

/-- `sgread`: the entry count for 0; for a card number the entry that a search leaves, its age and the count, or
NOT_FOUND with the count after the removal of an aged entry. -/
def Obligations.ReadSightingSearches : Prop :=
  ∀ (n : Nat) (s : State), s.serves (.readSighting (.fits n)) →
    (n = 0 → exec (.readSighting (.fits n)) s = .next (s.replied 28#8 .done (.count s.check.sightings.length))) ∧
    (n ≠ 0 → s.check.sightings.find? (fun e => e.number == n) = none →
      exec (.readSighting (.fits n)) s = .next (s.replied 28#8 .notFound (.count s.check.sightings.length))) ∧
    (n ≠ 0 → ∀ e, s.check.sightings.find? (fun e => e.number == n) = some e →
      let age := s.clock.seconds - e.seenAt
      let left := s.check.sightings.filter fun x => x.number != n
      (age ≤ 60 * s.settings.inForce.sightingAge → exec (.readSighting (.fits n)) s =
        .next (s.replied 28#8 .done (.sighting e age s.check.sightings.length))) ∧
      (60 * s.settings.inForce.sightingAge < age → exec (.readSighting (.fits n)) s =
        .next { s.replied 28#8 .notFound (.count left.length) with check := { s.check with sightings := left } }))

/-! ## Journal and notices -/

/-- `jread` gives the positions from its start on, in ring order, up to `count` of them and up to the first whose program
has not been reported, and changes nothing: from the oldest unreleased position for a start of 0 or below the oldest
unreleased record, otherwise from the first record at or above the start.  `jrel` is refused ORDER or BUSY, or releases the
positions up to the number named. -/
def Obligations.JournalRequests : Prop :=
  (∀ (q : JournalRange) (s : State), s.serves (.readJournal (.fits q)) →
    let unreleased := s.journal.positions.filter fun p => !p.released
    let holds := fun (p : Position) => decide (p.status ≠ .damaged)
    let start :=
      if q.start = 0 ∨ (∃ p, unreleased.find? holds = some p ∧ q.start < p.seq.getD 0) then unreleased
      else unreleased.dropWhile fun p => !(holds p && decide (q.start ≤ p.seq.getD 0))
    (q.count = 0 ∨ 8 < q.count → exec (.readJournal (.fits q)) s = .next (s.replied 29#8 .badValue .none)) ∧
    (1 ≤ q.count → q.count ≤ 8 → exec (.readJournal (.fits q)) s = .next (s.replied 29#8 .done
      (.journal (((start.takeWhile (·.reported)).take q.count).map s.journalItem) unreleased.length
        s.journal.newestProgrammed))) ∧
    ∀ p : Position, s.journalItem p =
      if p.status = .damaged then .damaged (p.seq.getD 0)
      else .record ((List.range 64).map fun i =>
        if i = 5 then p.status.code else s.store.memory.read (positionAddr p.pos + i)) p.unverified) ∧
  ∀ (n : Nat) (s : State), s.serves (.releaseJournal (.fits n)) →
    (s.journal.newestAssigned < n → exec (.releaseJournal (.fits n)) s = .next (s.replied 30#8 .order .none)) ∧
    (n ≤ s.journal.newestAssigned → ∃ k, k ≤ s.journal.unreleased.length ∧
      (n = s.journal.newestAssigned → k = s.journal.unreleased.length) ∧
      (∀ p ∈ s.journal.unreleased.drop k, p.isRecord = true → n < p.seq.getD 0) ∧
      (n < s.journal.newestAssigned → k = 0 ∨ ∃ p, s.journal.unreleased[k - 1]? = some p ∧ p.isRecord = true ∧ p.seq.getD 0 ≤ n) ∧
      ((∃ p ∈ s.journal.unreleased.take k, p.status = .intent ∨ p.unverified = true ∨ p.reported = false) →
        exec (.releaseJournal (.fits n)) s = .next (s.replied 30#8 .busy .none)) ∧
      ((∀ p ∈ s.journal.unreleased.take k, p.status ≠ .intent ∧ p.unverified = false ∧ p.reported = true) →
        ∃ t, exec (.releaseJournal (.fits n)) s = .next t ∧
          t.journal.unreleased = s.journal.unreleased.drop k ∧
          t.journal.positions.map (·.pos) = s.journal.positions.map (·.pos) ∧
          t.link = (s.replied 30#8 .done (.released k
            (match (s.journal.unreleased.drop k).find? (fun p => decide (p.status ≠ .damaged)) with
              | some p => p.seq.getD 0
              | none => 0))).link))

/-- `nmask` replaces the whole mask, and one `natt` is owed when a kind newly enabled has its flag set; `rstrt` is
answered DONE and a restart is pending. -/
def Obligations.NoticeMaskAndRestart : Prop :=
  (∀ (m : BitVec 32) (s : State), s.serves (.setNoticeMask (.fits m)) →
    ((∃ i, 25 ≤ i ∧ i ≤ 28 ∧ m.getLsbD i = true) →
      exec (.setNoticeMask (.fits m)) s = .next (s.replied 31#8 .badValue .none)) ∧
    ((∀ i, 25 ≤ i → i ≤ 28 → m.getLsbD i = false) →
      let answered : State := { s with link := { s.link with mask := m } }.replied 31#8 .done (.maskAndEvents m s.link.events)
      (∀ k : Nat, m.getLsbD k = true → s.link.events.getLsbD k = true → s.link.mask.getLsbD k = true) ∧
          exec (.setNoticeMask (.fits m)) s = .next answered ∨
      (∃ k : Nat, m.getLsbD k = true ∧ s.link.events.getLsbD k = true ∧ s.link.mask.getLsbD k = false) ∧
          exec (.setNoticeMask (.fits m)) s = .next { answered with link := answered.link.oweNatt })) ∧
  ∀ s : State, s.serves (.restart (.fits ())) → ∃ t, exec (.restart (.fits ())) s = .next t ∧
    t = { s.replied 34#8 .done .none with link := t.link } ∧
    t.link = { (s.replied 34#8 .done .none).link with restartPending := true } ∧
    ∀ kind accepts, t.portTakes kind accepts = false

/-- `eclr`: BAD_VALUE for any of bits 25 to 31; otherwise each flag named is cleared, but for a level kind whose condition
still holds, no other flag moves, and no `natt` is owed; an event raised afterwards sets its flag anew. -/
def Obligations.ClearEventsClearsTheNamedFlags : Prop :=
  ∀ (m : BitVec 32) (s : State), s.serves (.clearEvents (.fits m)) →
    ((∃ i, 25 ≤ i ∧ i ≤ 31 ∧ m.getLsbD i = true) →
      exec (.clearEvents (.fits m)) s = .next (s.replied 33#8 .badValue .none)) ∧
    ((∀ i, 25 ≤ i → i ≤ 31 → m.getLsbD i = false) → ∃ events : BitVec 32,
      (∀ k : EventKind, events.getLsbD k.bit =
        if m.getLsbD k.bit then decide (k ∈ levelKinds) && s.levelHolds k else s.link.flag k) ∧
      exec (.clearEvents (.fits m)) s =
        .next ({ s with link := { s.link with events := events } }.replied 33#8 .done (.events events)) ∧
      ∀ (k : EventKind) (t : State), t.link.events = events → (t.raise k).link.flag k = true ∧
        (t.link.mask.getLsbD k.bit = true → t.link.flag k = false → OutMessage.natt none ∉ t.link.output →
          (t.raise k).link.output.length = t.link.output.length + 1))

/-! ## Supplies, resets and the start-up scan -/

/-- A reset, whatever its cause, empties what RAM holds, keeps the clock, the time and the supply-warning line, sets RESET
alone, and records its cause; only RESTART keeps the sightings.  The store keeps its bytes, but for those of an operation in
progress or suspended, which is torn.
How far a torn operation came is a free value, log entry 3.  What RAM holds without supply is the model's choice, log entry 14; so is that the queue of commands outlasts a reset, log
entry 43. -/
def Obligations.ResetsRebuildTheState : Prop :=
  (∀ (cause : ResetCause) (s : State), let t := s.beginReset cause
    t.phase = .inReset ∧ t.link =
      { receiver := .hunting, gap := none, input := [], output := [], mask := 0#32, events := 1#32, discarded := 0,
        dropped := 0, restartPending := false, cause := cause } ∧
    t.now = s.now ∧ t.clock = s.clock ∧ t.supplyWarning = s.supplyWarning ∧ t.pending = s.pending ∧
    t.cards = Cards.initial ∧ t.recovery = [] ∧ t.fare = none ∧ t.check.denyList = [] ∧ t.check.hotList = [] ∧
    t.check.key0 = none ∧ t.check.key1 = none ∧
    t.check.sightings = (if cause = .restart then s.check.sightings else []) ∧
    t.aisle.mode = .outOfService ∧ t.aisle.claim = none ∧ t.aisle.credits = [] ∧ t.aisle.phase = .clear ∧
    t.aisle.inboundCount = 0 ∧ t.aisle.outboundCount = 0 ∧ t.aisle.unpaidCount = 0 ∧
    (∀ side, (t.drive.leaf side).state = .free ∧ (t.drive.leaf side).bridge = .off ∧ (t.drive.leaf side).count = 0) ∧
    t.journal.staging = [] ∧ t.journal.reservations = 0 ∧ t.journal.waiting = [] ∧
    t.store.op = none ∧ t.store.jobs = [] ∧ t.store.faultCount = 0 ∧ t.store.latestFault = none ∧
    t.store.memory = (match s.store.op with
      | none => s.store.memory
      | some op => s.store.memory.tearAction s.free op.action) ∧
    t.loader.load = .idle ∧ t.loader.parts = List.replicate 8 none) ∧
  (∀ s : State, s.phase = .off → exec .powerOn s = .next (s.beginReset .powerOn)) ∧
  (∀ s : State, s.phase ≠ .off → exec .supplyDip s = .next (s.beginReset .supplyDip) ∧
    exec .resetLine s = .next (s.beginReset .resetLine) ∧
    exec .mainSupplyLoss s = .next { s.beginReset .powerOn with phase := .off }) ∧
  ∀ s : State, s.phase = .inReset → ∃ t, exec .resetEnd s = .next t ∧ t.phase = .scanning ∧ t.scanStep = 1 ∧
    t.clock = (if s.clock.loss then { seconds := 0, valid := false, loss := false, boundary := s.now + 1000000 }
               else s.clock)

/-- The scan's steps 1 to 6, in order: what each takes from the store, or the empty or default results where the store holds
nothing.  A program of the scan ends, with its bytes as programmed or, after a failure, as far as it came (a free value, log
entry 3), and the next begins, and a record whose mark failed is unverified; the end of the scan
puts the 520 in service and tests the ARMED table, which becomes the active one in the same step when it falls due.
What the mode and the return mode are when the scan finds no active table is the model's inference, log entries 18 and 35;
which bank is taken of two with one version, log entry 25; how the lock entries are counted, log entry 31; the slots that
the delta log's use counts, log entry 24; that the journal scan's results stand at the end of step 6, log entry 17; and where
the two slots stand in the KEY record's body is its choice, log entry 8. -/
def Obligations.StartUpScan : Prop :=
  (∀ s : State, s.phase = .scanning → 1 ≤ s.scanStep → s.scanStep ≤ 6 → ∃ t,
    let m := s.store.memory
    let marked := fun (b : Bank) (x : List Byte) => markedWith m (fareMarkAddr b) (field x 0 4)
    exec .startUpScanStepEnd s = .next t ∧ t.phase = .scanning ∧ t.scanStep = s.scanStep + 1 ∧
    t.store.memory = m ∧
    (s.scanStep = 1 →
      (t.station.lock = .locked ↔ ∃ i, i < 4 ∧ (lockEntry m i).isSome = true) ∧
      (∀ i, i < 4 → ∀ x, lockEntry m i = some x → (∀ k, k < i → lockEntry m k = none) → t.station.identity = some x) ∧
      (t.station.lock ≠ .locked → t.station.lock = .unlocked ∧
        t.station.identity = (recordInForce m 0 .identity).map fun r => identityOf r.body)) ∧
    (s.scanStep = 2 →
      t.check.key0 = (recordInForce m 1 .key).bind (fun r => keySlotOf (slice r.body 0 18)) ∧
      t.check.key1 = (recordInForce m 1 .key).bind (fun r => keySlotOf (slice r.body 18 18))) ∧
    (s.scanStep = 3 →
      t.journal.floor = scanFloor m ∧
      (∀ r, recordInForce m 2 .settings = some r →
        t.settings.stored = settingsOf r.body ∧ t.aisle.direction = directionOf r.body ∧ t.link = s.link) ∧
      (recordInForce m 2 .settings = none →
        t.settings.stored = Settings.defaults ∧ t.aisle.direction = .both ∧ t.link.flag .settingsLost = true ∧
        ScanOp.settingsDefaults 0 ∈ t.scanWork)) ∧
    (s.scanStep = 4 →
      (∀ b x, fareBankImage m b = some x → marked b x = true →
        (∀ y, fareBankImage m b.other = some y → marked b.other y = true → field y 0 4 < field x 0 4) →
        t.fare = some (tableOf x) ∧ t.loader.activeBank = some b ∧ t.loader.stagingBank = b.other ∧
        (∀ y, fareBankImage m b.other = some y → marked b.other y = false → field x 0 4 < field y 0 4 →
          t.loader.staged = .armed y) ∧
        ((∀ y, fareBankImage m b.other = some y → marked b.other y = true ∨ field y 0 4 ≤ field x 0 4) →
          t.loader.staged = .empty)) ∧
      ((∀ b x, fareBankImage m b = some x → marked b x = false) → t.fare = none ∧ t.loader.activeBank = none ∧
        (∀ b x, fareBankImage m b = some x → (∀ y, fareBankImage m b.other = some y → field y 0 4 < field x 0 4) →
          t.loader.staged = .armed x ∧ t.loader.stagingBank = b) ∧
        ((∀ b, fareBankImage m b = none) → t.loader.staged = .empty ∧ t.loader.stagingBank = .A))) ∧
    (s.scanStep = 5 →
      (∀ b v es, denyBankOf m b = some (v, es) → markedWith m (denyMarkAddr b) v = true →
        (∀ w fs, denyBankOf m b.other = some (w, fs) → markedWith m (denyMarkAddr b.other) w = true → w < v) →
        let replay := (validDeltas m).foldl Replay.step { list := es, version := v, stopped := false }
        t.loader.markedBank = some b ∧ t.check.denyList = replay.list ∧ t.check.denyVersion = replay.version ∧
        (replay.stopped = true → t.link.flag .storeFault = true)) ∧
      ((∀ b v es, denyBankOf m b = some (v, es) → markedWith m (denyMarkAddr b) v = false) →
        t.loader.markedBank = none ∧ t.check.denyList = [] ∧ t.check.denyVersion = 0)) ∧
    (s.scanStep = 6 →
      t.check.hotList = scanHotList m ∧ (∀ e ∈ t.check.hotList, e.since = 0) ∧
      s.journal.floor + 9 ≤ t.journal.nextSeq ∧ t.journal.staging = [] ∧ t.journal.reservations = 0 ∧
      (∀ p ∈ t.journal.positions, p.status ≠ .intent ∧ p.reported = true ∧ p.released = false) ∧
      ∀ f ∈ foundPositions m, ∀ st, f.mark = some st → ScanOp.mark f.pos st ∈ t.scanWork)) ∧
  (∀ (s : State) (op : StoreOp) (w : ScanOp) (ws : List ScanOp), s.phase = .scanning → s.supplyWarning = false →
    s.store.op = some op → op.owner = .scan → s.scanWork = w :: ws → ∀ ok, ∃ t, exec (.scanProgramComplete ok) s = .next t ∧
    t.store.memory = (if ok then s.store.memory.carryOut op.action else s.store.memory.tearAction s.free op.action) ∧
    (s.opSucceeds ok op = true → ∀ n, op.next = some n →
      t.scanWork = (match w with | .settingsDefaults _ => .settingsDefaults n | .mark pos st => .mark pos st) :: ws ∧
      t = ({ s.endOp ok op with scanWork := t.scanWork }).startStore) ∧
    (s.opSucceeds ok op = true → op.next = none → t = ({ s.endOp ok op with scanWork := ws }).startStore) ∧
    (s.opSucceeds ok op = false → t.link.flag .storeFault = true ∧
      ∃ j : Journal, t = ({ s.endOp ok op with scanWork := ws, journal := j }).startStore ∧
        ((∃ n, w = .settingsDefaults n) ∨ (∃ pos, w = .mark pos .damaged) → j = s.journal) ∧
        ∀ pos st, w = .mark pos st → st ≠ .damaged →
          j = { s.journal with
            positions := s.journal.positions.map fun p => if p.pos = pos then { p with unverified := true } else p }) ∧
    (s.opSucceeds ok op = false ∨ op.next = none → t.scanWork = ws ∧ (ws = [] → t.store.op = none))) ∧
  ∀ s : State, s.phase = .scanning → s.scanStep = 7 → s.scanWork = [] → s.store.op = none → ∃ t,
    exec .startUpScanEnd s = .next t ∧ t.phase = .running ∧
    t.settings = { s.settings with inForce := s.settings.stored, pending := [] } ∧
    t.aisle.mode = (if s.aisle.emergencyLine.level then .emergency
      else if s.station.identity = none ∨ (s.fare = none ∧ s.loader.staged.isArmed = false) then .outOfService
      else startModeOf s.settings.stored.startMode) ∧
    t.aisle.returnMode = startModeOf s.settings.stored.startMode ∧ t.aisle.hostEmergency = false ∧
    (∀ b, (t.aisle.beam b).line.level = false ∧
      (t.aisle.beam b).line.timer = if (s.aisle.beam b).line.raw then
        some (s.now + 1000 * s.settings.stored.sensorFilter) else none) ∧
    (∀ k ∈ levelKinds, t.levelHolds k = true → t.link.flag k = true) ∧
    (∀ r, (s.session r).state = .closed → (t.session r).state = if t.readerShut r then .closed else .ready) ∧
    (let image := s.loader.staged.image
     let due := s.loader.staged.isArmed = true ∧ s.clock.valid = true ∧ field image 4 4 ≤ s.clock.seconds / 60 ∧
       s.atBoundary = true
     (due → t.fare = some (tableOf image) ∧ t.loader.staged = .empty ∧ t.loader.activeBank = some s.loader.stagingBank ∧
       t.loader.stagingBank = s.loader.stagingBank.other ∧ t.loader.markPending = true ∧
       t.link.flag .tableActivated = true) ∧
     (¬ due → t.fare = s.fare ∧ t.loader = s.loader))

/-- A second boundary raises the count by one, up to the clock limit, and an advance of the fare minute tests the
lifetimes and the ARMED table, which becomes the active one in the same step when it falls due; the loss of the backup supply
sets the loss indication.
The moment of a tick and what a lost clock reads are the model's choices, log entries 27 and 4; that the lifetime test drops
entries still held with their marks is its inference, log entry 63. -/
def Obligations.ClockTicksAndLoss : Prop :=
  (∀ s : State, s.clock.loss = false ∨ s.phase.linkRuns = true →
    let n := if s.clock.seconds < 3155673599 then s.clock.seconds + 1 else s.clock.seconds
    let ticked : State :=
      { s with now := max s.now s.clock.boundary,
               clock := { s.clock with seconds := n, boundary := s.clock.boundary + 1000000 } }
    (n / 60 = s.clock.seconds / 60 → exec .secondTick s = .next ticked) ∧
    (n / 60 ≠ s.clock.seconds / 60 → exec .secondTick s = .next
      ({ ticked with
        recovery := s.recovery.filter (fun e => decide (n / 60 - e.minute ≤ s.settings.inForce.recoveryLifetime)),
        journal := s.journal.heldWithin s.settings.inForce.recoveryLifetime (n / 60) }.testDue.startStore))) ∧
  ∀ s : State, ∃ t, exec .backupSupplyLoss s = .next t ∧ t.clock.loss = true ∧ t.clock.boundary = s.clock.boundary ∧
    t.clock.seconds ≤ 3155673599 ∧
    (t.clock.valid = false → s.phase = .running → ∀ r, (t.session r).state ≠ .ready) ∧
    (t.clock.valid = false → s.clock.valid = true → s.phase = .running → t.link.flag .clockInvalid = true)

/-- The supply warning suspends the operation in progress and interrupts the sessions; its end restarts the operation
with a full maximum time and hands the target of R104 again.  Without fail-open a moving leaf is stopped with action FREE,
a brake's action becomes FREE, and a leaf at rest becomes FREE, although the target was FREE already.
A session in IDENTIFYING to READING ends ABORTED; one in AWAIT_INTENT to QUERYING goes on with its RESERVED credit withheld. -/
def Obligations.SupplyWarningSuspendsTheStore : Prop :=
  (∀ s : State, s.phase = .running → s.supplyWarning = false → ∃ t, exec .supplyWarningStart s = .next t ∧
    t.supplyWarning = true ∧ t.link.flag .supplyWarning = true ∧
    t.store = { s.store with op := s.store.op.map fun o => { o with deadline := none } } ∧
    t.drive.inForce = (if s.settings.inForce.failOpen = 1 then .open else .free) ∧
    (s.settings.inForce.failOpen ≠ 1 → ∀ side,
      let l := s.drive.leaf side
      let m := t.drive.leaf side
      (l.state = .opening ∨ l.state = .closing → m.state = .braking ∧ m.action = some .free ∧
        m.bridge ≠ .driveOpen ∧ m.bridge ≠ .driveClose) ∧
      (l.state = .braking → m = { l with action := if l.action = some .stall then l.action else some .free }) ∧
      (l.state = .closed ∨ l.state = .open → m.state = .free) ∧
      (l.state = .free ∨ l.state = .stalled ∨ l.state = .heldOpen → m = l)) ∧
    (∀ r, t.paused r = true) ∧
    ∀ r : Reader,
      let x := s.session r
      let y := t.session r
      (x.state = .identifying ∨ x.state = .authenticating ∨ x.state = .reading →
        y.state = .holdoff ∧ y.outcome = some .aborted ∧ y.exchange = none) ∧
      (x.state = .awaitIntent ∨ x.state = .writing ∨ x.state = .querying →
        y = { x with withheld := x.withheld || s.aisle.reserved r }) ∧
      (x.state = .closed ∨ x.state = .ready ∨ x.state = .holdoff → y = x)) ∧
  ∀ s : State, s.phase = .running → s.supplyWarning = true → ∃ t, exec .supplyWarningEnd s = .next t ∧
    t.supplyWarning = false ∧ t.drive.inForce = s.aisle.target ∧
    (∀ op, s.store.op = some op → t.store = { s.store with
      op := some { op with deadline := some (s.now + op.action.kind.maxTime) } }) ∧
    (s.store.op = none → ∀ e rest, s.journal.staging = e :: rest → t.store.op =
      some { action := e.action, owner := .staging, next := none, deadline := some (s.now + e.action.kind.maxTime) })

/-! ## Card sessions -/

/-- CARD_PRESENT, COLLISION and CARD_REMOVED set the presence condition; a removal ends a session that has sent no
write LOST, one with the twin mark CLONE_DETECTED, and one that awaits a write's answer UNCERTAIN; in AWAIT_INTENT the
credit goes, a waiting intent leaves the line, and a queued one owes its VOID mark.
Which reader a link serves is log entry 6. -/
def Obligations.FrontEndReports : Prop :=
  ∀ (l : Link) (s : State), s.phase.linkRuns = true →
    let x := s.session (s.readerAt l)
    (∃ t, exec (.cardPresent l) s = .next t ∧
      t.cards.presence l = (if x.state = .closed then .doneCard else .newCard) ∧
      (x.state ≠ .holdoff → t.session (s.readerAt l) = x) ∧
      (x.state = .holdoff → s.journal.slot (s.readerAt l) = [] →
        (t.session (s.readerAt l)).state = (if s.readerShut (s.readerAt l) then .closed else .ready))) ∧
    (∃ t, exec (.collision l) s = .next t ∧
      t.cards.presence l = (match s.cards.presence l with
        | .noCard => .multiple | .multiple => .multiple | .newCard => .newCard | .doneCard => .doneCard) ∧
      t.session (s.readerAt l) = if x.state = .ready then { x with collision := some (s.now + 1500000) } else x) ∧
    (∃ t, exec (.cardRemoved l) s = .next t ∧ t.cards.presence l = .noCard ∧ t.cards.inSession l = none ∧
      (x.state = .closed ∨ x.state = .ready ∨ x.state = .holdoff → t.session (s.readerAt l) = x) ∧
      (x.state = .identifying ∨ x.state = .authenticating ∨ x.state = .reading → x.twin = false →
        (t.session (s.readerAt l)).state = .holdoff ∧ (t.session (s.readerAt l)).outcome = some .lost) ∧
      (x.state = .identifying ∨ x.state = .authenticating ∨ x.state = .reading → x.twin = true →
        (t.session (s.readerAt l)).state = .holdoff ∧ (t.session (s.readerAt l)).outcome = some .cloneDetected) ∧
      (x.state = .awaitIntent →
        (t.session (s.readerAt l)).state = .holdoff ∧
        (t.session (s.readerAt l)).outcome = some (x.outcome.getD .lost) ∧
        (s.aisle.reserved (s.readerAt l) = true → t.aisle.credits.length + 1 = s.aisle.credits.length) ∧
        (s.aisle.reserved (s.readerAt l) = false → t.aisle.credits = s.aisle.credits) ∧
        (∀ w ∈ t.journal.waiting, ¬ (w.reader = s.readerAt l ∧ w.item = .intent)) ∧
        ∀ rec pos, StagingEntry.record rec pos (.session (s.readerAt l)) ∈ s.journal.staging →
          StagingEntry.record rec pos .voidOwed ∈ t.journal.staging) ∧
      ((x.state = .writing ∨ x.state = .querying) →
        (t.session (s.readerAt l)).state = .holdoff ∧
        (t.session (s.readerAt l)).outcome = some (x.outcome.getD .torn) ∧ t.link.flag .tear = true ∧
        s.endsUncertain t (s.readerAt l)))

/-- READY and CLOSED follow the conditions of R7, and every other session state stays.  A session starts at a READY reader
that is not paused and has a NEW_CARD: IDENTIFY is sent, or the session ends EMERGENCY at reader U in that mode; otherwise
nothing starts. -/
def Obligations.ReadersOpenAndSessionsStart : Prop :=
  (∀ (r : Reader) (s : State),
    let shut := s.aisle.mode = .outOfService ∨ (s.aisle.direction = .exitOnly ∧ r = .U) ∨
      (s.aisle.direction = .entryOnly ∧ r = .P) ∨ s.station.identity = none ∨ s.fare = none ∨ s.clock.valid = false ∨
      s.phase ≠ .running
    ((s.session r).state = .ready ∨ (s.session r).state = .closed →
      (shut → (s.followReaders.session r).state = .closed) ∧ (¬ shut → (s.followReaders.session r).state = .ready)) ∧
    ((s.session r).state ≠ .ready → (s.session r).state ≠ .closed → s.followReaders.session r = s.session r) ∧
    s.followReaders = { s with cards := s.followReaders.cards } ∧
    ∀ l, s.followReaders.cards.presence l = s.cards.presence l) ∧
  ∀ (r : Reader) (s : State), s.phase = .running →
    ((s.session r).state = .ready → s.paused r = false → s.cards.presence (s.linkOf r) = .newCard →
      ∃ t, exec (.sessionStart r) s = .next t ∧ t.cards.presence (s.linkOf r) = .doneCard ∧
        (¬ (s.aisle.mode = .emergency ∧ r = .U) →
          t.session r = { Session.initial with
            state := .identifying, collision := (s.session r).collision, exchange := some .identify,
            answerWindow := some (s.now + 1000 * s.settings.inForce.answerWindow) } ∧ t.link = s.link) ∧
        (s.aisle.mode = .emergency → r = .U →
          (t.session r).state = .holdoff ∧ (t.session r).outcome = some .emergency ∧ (t.session r).exchange = none ∧
          (s.link.mask.getLsbD 29 = true → s.link.output.length < 12 → t.link.output.getLast? =
            some (.nout .U 0 .emergency 0 none)))) ∧
    ((s.session r).state ≠ .ready ∨ s.paused r = true ∨ s.cards.presence (s.linkOf r) ≠ .newCard →
      exec (.sessionStart r) s = .next s)

/-- The IDENTIFY answer meets the checks of R10 in order; a twin presence ends this session and marks the other one, while
it authenticates or reads.  A session that ends here hands a `nout` with its card, its outcome, no charge and no balance, and
makes its REFUSED record with the outcome as its reason. -/
def Obligations.IdentifyAnswerMeetsTheChecks : Prop :=
  ∀ (l : Link) (card : CardId) (s : State), s.phase = .running →
    let r := s.readerAt l
    (s.session r).exchange = some .identify → (s.session r).state = .identifying → (s.session r).verdict = none →
    ∃ t, exec (.identifyAnswer l card) s = .next t ∧
      t.cards.inSession l = some card.number ∧ (t.session r).card = some card ∧
      let x := t.session r
      let ended := fun (o : CardOutcome) => x.state = .holdoff ∧ x.outcome = some o ∧ x.exchange = none
      let known := (s.check.key0.map (·.version) = some card.keyVersion ∨ s.check.key1.map (·.version) = some card.keyVersion)
      let hot := ∃ e ∈ s.check.hotList, e.number = card.number
      let denied := ∃ e ∈ s.check.denyList, e.number = card.number
      let twin := s.cards.inSession (s.linkOf (otherReader r)) = some card.number
      let other := s.session (otherReader r)
      (twin → ended .cloneDetected ∧ t.link.flag .clone = true ∧ (∃ e ∈ t.check.hotList, e.number = card.number) ∧
        t.session (otherReader r) =
          if other.state = .authenticating ∨ other.state = .reading then { other with twin := true } else other) ∧
      (¬ twin → t.session (otherReader r) = other) ∧
      (∀ o, ended o → (s.session r).image = none → s.link.mask.getLsbD 29 = true → s.link.output.length < 10 →
        OutMessage.nout r card.number o 0 none ∈ t.link.output) ∧
      (∀ o, ended o → s.makesRecord t r [] [] fun rec => rec.refuses r card o) ∧
      (¬ twin → card.status = .blocked → ended .cardBlocked) ∧
      (¬ twin → card.status = .active →
        (¬ known ∨ card.counter = 65535 →
          (hot → ended .cloneListed) ∧ (¬ hot → denied → ended .denyListed) ∧
          (¬ hot → ¬ denied → card.counter = 65535 → ended .cardExhausted) ∧
          (¬ hot → ¬ denied → card.counter ≠ 65535 → ended .keyUnknown)) ∧
        (known → card.counter ≠ 65535 → x.state = .authenticating ∧ (∃ c, x.exchange = some (.authenticate c)) ∧
          (hot → x.verdict = some .cloneListed) ∧ (¬ hot → denied → x.verdict = some .denyListed) ∧
          (¬ hot → ¬ denied → x.verdict = none)))

/-- The AUTHENTICATE answer is compared with the expected response: READ, or the block path, when equal; one fresh
challenge on the first mismatch; COUNTERFEIT and a detection on the second.  A session with the twin mark ends
CLONE_DETECTED.  A session refused here makes its REFUSED record.
Digest and challenges are free values, log entries 1 and 2. -/
def Obligations.AuthenticateAnswerIsCompared : Prop :=
  ∀ (l : Link) (response c : BitVec 64) (k : KeySlot) (card : CardId) (s : State), s.phase = .running →
    let r := s.readerAt l
    let x := s.session r
    x.exchange = some (.authenticate c) → x.card = some card →
    x.challenges.length < 2 ^ 64 → s.check.keyFor card.keyVersion = some k → ∃ t,
      exec (.authenticateAnswer l response) s = .next t ∧
      let y := t.session r
      (x.twin = true → y.state = .holdoff ∧ y.outcome = some .cloneDetected ∧ y.exchange = none ∧ t.check = s.check ∧
        s.makesRecord t r [] [] fun rec => rec.refuses r card .cloneDetected) ∧
      (x.twin = false →
      (response = expectedResponse k.key card c → x.verdict = none →
        y.state = .reading ∧ y.exchange = some .read ∧ t.check = s.check) ∧
      (response = expectedResponse k.key card c → ∀ v, x.verdict = some v →
        y.state = .awaitIntent ∧ y.exchange = none ∧ y.blockPath = true ∧ y.outcome = some v.outcome ∧
        s.queuesIntent t r fun rec => rec.blocks r card v.outcome ∧ rec.denyReason = x.denyReason) ∧
      (response ≠ expectedResponse k.key card c → x.mismatchUsed = false →
        y.state = .authenticating ∧ y.mismatchUsed = true ∧ t.check = s.check ∧
        ∃ c', y.exchange = some (.authenticate c') ∧ c' ∉ x.challenges) ∧
      (response ≠ expectedResponse k.key card c → x.mismatchUsed = true →
        y.state = .holdoff ∧ y.outcome = some .counterfeit ∧ t.link.flag .clone = true ∧
        (∃ e ∈ t.check.hotList, e.number = card.number) ∧
        s.makesRecord t r [] [] fun rec => rec.refuses r card .counterfeit))

/-- The READ answer: the twin mark ends the session CLONE_DETECTED, a refused image CARD_DATA_ERROR.  A good image is settled,
screened and decided: a detection puts the session on the block path with CLONE_DETECTED and its hot list entry; with no
entry, an aged one or one that passes, the Fare Engine decides.  The intent of an admission, with the decision's fields, or
of a block enters the staging queue in the same step, or waits.  A refusal hands a `nout` with the balance read, and, but for
AISLE_BUSY, makes its REFUSED record, a fare refusal's with the fare, the charge and the day total of its decision. -/
def Obligations.ReadAnswerIsDecided : Prop :=
  ∀ (l : Link) (image : List Byte) (card : CardId) (s : State), s.phase = .running →
    let r := s.readerAt l
    let x := s.session r
    x.exchange = some .read → x.card = some card → ∃ t, exec (.readAnswer l image) s = .next t ∧
      let y := t.session r
      let i := decodeImage image
      let entry := s.check.sightings.find? fun e => e.number == card.number
      let aged := fun (e : Sighting) => 60 * s.settings.inForce.sightingAge < s.clock.seconds - e.seenAt
      let heard := s.link.mask.getLsbD 29 = true ∧ s.link.output.length < 10
      y.exchange = none ∧ y.image = some i ∧ y.state ≠ .reading ∧
      (x.twin = true → y.state = .holdoff ∧ y.outcome = some .cloneDetected ∧ t.aisle = s.aisle ∧ t.check = s.check ∧
        s.makesRecord t r [] [] fun rec => rec.refuses r card .cloneDetected) ∧
      (x.twin = false → imageGood image = false →
        y.state = .holdoff ∧ y.outcome = some .cardDataError ∧ t.aisle = s.aisle ∧
        (s.makesRecord t r [] [] fun rec => rec.refuses r card .cardDataError) ∧
        (heard → OutMessage.nout r card.number .cardDataError 0 (some i.balance) ∈ t.link.output)) ∧
      (x.twin = false → imageGood image = true → s.recoveryFor card.number = none →
        (∀ e, entry = some e → ¬ aged e → card.counter < e.counter ∨ (card.counter = e.counter ∧ i.writer ≠ e.stamp) →
          y.state = .awaitIntent ∧ y.blockPath = true ∧ y.outcome = some .cloneDetected ∧ y.decision = x.decision ∧
          (s.queuesIntent t r fun rec => rec.blocks r card .cloneDetected ∧ rec.balance = i.balance ∧
            rec.dayTotal = i.dayTotal) ∧
          t.link.flag .clone = true ∧ (∃ h ∈ t.check.hotList, h.number = card.number) ∧
          t.check.sightings = s.check.sightings) ∧
        (∀ e, entry = some e → aged e → ∀ z ∈ t.check.sightings, z.number ≠ card.number) ∧
        ((∀ e, entry = some e → aged e ∨ e.counter < card.counter ∨ (e.counter = card.counter ∧ e.stamp = i.writer)) →
          ∀ table, s.fare = some table →
          match s.ruling r table card i with
          | .refuse o fare charge total => y.state = .holdoff ∧ y.outcome = some o ∧ t.aisle = s.aisle ∧
            (s.makesRecord t r [] [] fun rec =>
              rec.refuses r card o ∧ rec.fare = fare ∧ rec.charged = charge ∧ rec.dayTotal = total) ∧
            (heard → OutMessage.nout r card.number o 0 (some i.balance) ∈ t.link.output)
          | .accept d =>
            y.decision = some d ∧
            (s.aisle.mode = .emergency ∨ s.askClaim (directionOfReader r) = .granted →
              s.queuesIntent t r fun rec => rec.intends r card d ∧ rec.fareVersion = table.version ∧
                rec.denyVersion = s.check.denyVersion) ∧
            (s.aisle.mode ≠ .emergency → s.askClaim (directionOfReader r) = .granted →
              y.state = .awaitIntent ∧ t.aisle.claim = some (directionOfReader r) ∧
              t.aisle.credits.length = s.aisle.credits.length + 1 ∧ t.aisle.reserved r = true) ∧
            (s.aisle.mode ≠ .emergency → s.askClaim (directionOfReader r) ≠ .granted →
              y.state = .holdoff ∧ y.outcome = some .aisleBusy ∧ t.aisle = s.aisle ∧ t.journal.nextSeq = s.journal.nextSeq ∧
              (heard → OutMessage.nout r card.number .aisleBusy 0 (some i.balance) ∈ t.link.output)) ∧
            (s.aisle.mode = .emergency → y.state = .awaitIntent ∧ t.aisle.credits.length = s.aisle.credits.length)))

/-- A card with an entry in the Recovery List is settled DONE, VOID or SUPERSEDED by its counter and writer stamp when its
image is read; an honoured admission makes its credit without a write, and any other settlement removes the entry and makes
its RESOLVED record, ahead of any other that the session makes.
That a full journal counts as no free entry is the model's inference, log entry 39. -/
def Obligations.TornWritesAreSettled : Prop :=
  (∀ (e : RecoveryEntry) (counter : Nat) (writer : Stamp),
    (counter = e.after → writer = e.stamp → settlementOf e counter writer = .done) ∧
    (counter ≠ e.after ∨ writer ≠ e.stamp → counter = e.before → settlementOf e counter writer = .void) ∧
    (counter ≠ e.after ∨ writer ≠ e.stamp → counter ≠ e.before → settlementOf e counter writer = .superseded)) ∧
  ∀ (l : Link) (image : List Byte) (card : CardId) (e : RecoveryEntry) (s : State), s.phase = .running →
    let r := s.readerAt l
    (s.session r).exchange = some .read → (s.session r).card = some card → (s.session r).twin = false →
    imageGood image = true → s.recovery.find? (fun e => e.number == card.number) = some e →
    let done := settlementOf e card.counter (decodeImage image).writer = .done
    let honours := done ∧ s.now < e.honourDeadline ∧ e.direction = directionOfReader r
    ∃ t, exec (.readAnswer l image) s = .next t ∧
      let y := t.session r
      let reason := match settlementOf e card.counter (decodeImage image).writer with
        | .done => 32
        | .void => 33
        | .superseded => 34
      let resolves := fun (rec : JournalRecord) => rec.kind = .resolved ∧ rec.reason = reason ∧ rec.reader = r ∧
        rec.referenced = some e.seq ∧ rec.number = card.number ∧ rec.cls = card.cls ∧ rec.counterBefore = e.before ∧
        rec.counterAfter = card.counter ∧ rec.fare = 0 ∧ rec.charged = 0
      (¬ honours → (∀ x ∈ t.recovery, x.number ≠ card.number) ∧
        ∃ staged waited, s.makesRecord t r staged waited resolves) ∧
      (honours → s.aisle.mode ≠ .emergency → s.journal.room 1 = true → s.askClaim e.direction = .granted →
        y.state = .holdoff ∧ y.outcome = some .honoured ∧ (∀ x ∈ t.recovery, x.number ≠ card.number) ∧
        t.aisle.claim = some e.direction ∧ t.aisle.credits = s.aisle.credits ++
          [{ direction := e.direction, source := .card, state := .active, seq := some s.journal.nextSeq,
             reader := some r }] ∧
        ∃ rec pos, t.journal.staging = s.journal.staging ++ [.record rec pos .single] ∧ rec.kind = .resolved ∧
          rec.reason = 32 ∧ rec.referenced = some e.seq ∧ rec.seq = s.journal.nextSeq) ∧
      (honours → s.aisle.mode ≠ .emergency → s.journal.room 1 = false ∨ s.askClaim e.direction ≠ .granted →
        y.state = .holdoff ∧ y.outcome = some .aisleBusy ∧ t.recovery = s.recovery ∧ t.aisle = s.aisle ∧
        t.check = s.check ∧ t.journal.nextSeq = s.journal.nextSeq ∧ t.journal.staging = s.journal.staging) ∧
      (honours → s.aisle.mode = .emergency →
        y.state = .holdoff ∧ y.outcome = some .honoured ∧ (∀ x ∈ t.recovery, x.number ≠ card.number) ∧
        t.aisle = s.aisle ∧ s.makesRecord t r [] [] resolves)

/-- The oldest of the waiting line enters the staging queue when there is room for it, and not before.  Room is staging entries,
a free write position and a sequence number; the record enters as it waited, with its number, the station and the gate, and
an intent with the reservation of its mark.
That the position must be free beside ERASED sectors elsewhere is the model's choice, log entry 62. -/
def Obligations.WaitingRecordsEnterInOrder : Prop :=
  let enters := fun (s t : State) (rec : JournalRecord) (owner : RecordOwner) =>
    t.journal.nextSeq = s.journal.nextSeq + 1 ∧ t.journal.newestAssigned = s.journal.nextSeq ∧
    t.journal.reservations = s.journal.reservations + (if rec.kind.cardWriting then 1 else 0) ∧
    t.journal.staging = s.journal.staging ++ [.record
      { rec with seq := s.journal.nextSeq, station := (s.station.identity.map (·.station)).getD 0,
                 gate := (s.station.identity.map (·.gate)).getD 0 } s.journal.writePos owner]
  (∀ (j : Journal) (n : Nat), j.room n = true ↔ n ≤ 8 - j.staging.length - j.reservations ∧
    j.sectors[j.writePos / 64]? = some .current ∧ j.nextSeq ≤ 4294967295) ∧
  (∀ (r : Reader) (rec : JournalRecord) (line : List Waiting) (s : State), s.phase = .running →
    s.journal.waiting = { reader := r, item := .intent } :: line → (s.session r).intent = some rec →
    (s.journal.room 2 = true → ∃ t, exec (.intentEntersStaging r) s = .next t ∧ t.journal.waiting = line ∧
      (t.session r).intent = none ∧ (t.session r).intentSeq = some s.journal.nextSeq ∧ enters s t rec (.session r)) ∧
    (s.journal.room 2 = false → exec (.intentEntersStaging r) s = .next s)) ∧
  ∀ (r : Reader) (rec : JournalRecord) (line : List Waiting) (s : State), s.phase = .running →
    s.journal.waiting = { reader := r, item := .record rec } :: line →
    (s.journal.room 1 = true → ∃ t, exec (.pendingRecordEntersStaging r) s = .next t ∧ t.journal.waiting = line ∧
      enters s t rec .single) ∧
    (s.journal.room 1 = false → exec (.pendingRecordEntersStaging r) s = .next s)

/-- The answers to WRITE, BLOCK and QUERY: the expected counter after makes the write COMPLETE, the counter before or a
REJECTED makes it VOID, any other counter leads to QUERY, and from QUERYING to UNCERTAIN; each queues its mark.  A COMPLETE
fare write makes its local sighting, its `nsig` and a `nout` with the charge and the balance written; its withheld credit
leaves an UNUSED record with reason MODE.  On the block path the outcome stays, and no sighting is made.
That TEAR is raised before the `nout` is handed on is the model's choice, log entry 19. -/
def Obligations.WriteAnswersEndTheMoneyPath : Prop :=
  ∀ (l : Link) (card : CardId) (s : State), s.phase = .running →
    let r := s.readerAt l
    let x := s.session r
    x.card = some card →
    let done := fun (t : State) (o : CardOutcome) => (t.session r).state = .holdoff ∧ (t.session r).outcome = some o
    let marked := fun (t : State) (st : RecordStatus) (e : Option RecoveryEntry) =>
      ∀ seq pos, x.intentSeq = some seq → s.journal.posOf seq = some pos → StagingEntry.mark pos st e ∈ t.journal.staging
    let told := fun (t : State) (o : CardOutcome) (charge : Nat) (balance : Option Int) =>
      s.link.mask.getLsbD 29 = true → s.link.output.length < 9 →
        OutMessage.nout r card.number o charge balance ∈ t.link.output
    let completed := fun (t : State) (d : Decision) =>
      done t d.kind.admitted ∧ marked t .complete none ∧ told t d.kind.admitted d.charge (some d.image.balance) ∧
      (s.link.mask.getLsbD 31 = true → s.link.output.length < 9 →
        OutMessage.nsig card.number (card.counter + 1) d.image.writer (directionOfReader r) s.clock.seconds ∈ t.link.output) ∧
      (s.check.sightings.find? (fun e => e.number == card.number) = none → (
        { number := card.number, counter := card.counter + 1, stamp := d.image.writer, direction := directionOfReader r,
          seenAt := s.clock.seconds, source := .localGate } : Sighting) ∈ t.check.sightings) ∧
      (d.kind ≠ .emergencyExit → x.withheld = false → s.aisle.reserved r = true →
        t.aisle.credits.countP Credit.isActive = s.aisle.credits.countP Credit.isActive + 1) ∧
      (d.kind ≠ .emergencyExit → x.withheld = true → s.journal.room 2 = true → ∃ rec pos,
        StagingEntry.record rec pos .single ∈ t.journal.staging ∧ rec.kind = .unused ∧ rec.reason = 40 ∧
        rec.referenced = some (x.intentSeq.getD 0) ∧ rec.reader = readerOf d.direction)
    let voided := fun (t : State) =>
      done t .writeFailed ∧ marked t .void none ∧ s.creditRemoved t r ∧ told t .writeFailed 0 (x.image.map (·.balance)) ∧ t.check = s.check
    (∀ img n a, x.exchange = some (.write img n) → x.blockPath = false → x.outcome = none → ∀ d, x.decision = some d →
      ∃ t, exec (.writeAnswer l a) s = .next t ∧
        (a = .accepted (card.counter + 1) → completed t d) ∧
        (a = .rejected → voided t) ∧
        (∀ c, a = .accepted c → c ≠ card.counter + 1 →
          (t.session r).state = .querying ∧ (t.session r).exchange = some .query ∧ t.aisle = s.aisle)) ∧
    (∀ n a o, x.exchange = some (.block n) → x.blockPath = true → x.outcome = some o →
      ∃ t, exec (.blockAnswer l a) s = .next t ∧ t.check = s.check ∧
        (a = .accepted (card.counter + 1) → done t o ∧ marked t .complete none) ∧
        (a = .rejected → done t o ∧ marked t .void none) ∧
        (∀ c, a = .accepted c → c ≠ card.counter + 1 → (t.session r).state = .querying)) ∧
    (∀ c o, x.exchange = some .query → x.blockPath = true → x.outcome = some o →
      ∃ t, exec (.queryAnswer l c) s = .next t ∧ t.check = s.check ∧ done t o ∧
        (c = card.counter + 1 → marked t .complete none) ∧ (c = card.counter → marked t .void none) ∧
        (c ≠ card.counter + 1 → c ≠ card.counter → marked t .uncertain none ∧ t.link.flag .tear = true)) ∧
    ∀ c, x.exchange = some .query → x.blockPath = false → x.outcome = none → ∀ d, x.decision = some d →
      ∃ t, exec (.queryAnswer l c) s = .next t ∧
        (c = card.counter + 1 → completed t d) ∧
        (c = card.counter → voided t) ∧
        (c ≠ card.counter + 1 → c ≠ card.counter → done t .torn ∧ t.link.flag .tear = true ∧
          told t .torn 0 (x.image.map (·.balance)) ∧ s.endsUncertain t r)

/-- The sessions' timers: an answer window resends, sends QUERY, or ends the session; the display's end returns the
reader; a window that runs out ends a session with the twin mark CLONE_DETECTED; the honour window of a card, whether its
entry is in the list or held with its mark, changes nothing but the time.
How an expiry moves the time is the model's choice, log entry 28. -/
def Obligations.SessionTimers : Prop :=
  (∀ (r : Reader) (e : Exchange) (d : Nat) (s : State), s.phase = .running →
    let x := s.session r
    x.answerWindow = some d → x.exchange = some e →
    x.challenges.length < 2 ^ 64 → ∃ t, exec (.answerWindowExpiry r) s = .next t ∧ t.now = max s.now d ∧
      let y := t.session r
      (x.twin = true → (∃ c, e = .authenticate c) ∨ e = .read →
        y.state = .holdoff ∧ y.outcome = some .cloneDetected ∧ y.exchange = none) ∧
      (x.twin = false ∨ ((∀ c, e ≠ .authenticate c) ∧ e ≠ .read) →
      (e = .identify ∨ e = .read → x.resendUsed = false → y.exchange = some e ∧ y.resendUsed = true ∧ y.state = x.state ∧
        y.answerWindow = some (max s.now d + 1000 * s.settings.inForce.answerWindow)) ∧
      (e = .identify ∨ e = .read → x.resendUsed = true → y.state = .holdoff ∧ y.outcome = some .lost) ∧
      (∀ c, e = .authenticate c → x.noAnswerUsed = false → y.noAnswerUsed = true ∧
        ∃ c', y.exchange = some (.authenticate c') ∧ c' ∉ x.challenges) ∧
      (∀ c, e = .authenticate c → x.noAnswerUsed = true → y.state = .holdoff ∧ y.outcome = some .lost) ∧
      (∀ img n, e = .write img n ∨ e = .block n → y.state = .querying ∧ y.exchange = some .query ∧ y.resendUsed = false) ∧
      (e = .query → x.resendUsed = false → y.exchange = some .query ∧ y.resendUsed = true) ∧
      (e = .query → x.resendUsed = true → y.state = .holdoff ∧ y.outcome = some (x.outcome.getD .torn) ∧
        t.link.flag .tear = true ∧ s.endsUncertain t r))) ∧
  (∀ (r : Reader) (d : Nat) (s : State), s.phase = .running → (s.session r).display = some d →
    (∀ c, (s.session r).collision = some c → d < c) → (s.session r).state = .holdoff → s.journal.slot r = [] →
    ∃ t, exec (.outcomeDisplayExpiry r) s = .next t ∧ t.now = max s.now d ∧
      (t.session r).state = (if s.readerShut r then .closed else .ready) ∧ (t.session r).outcome = none ∧
      (t.session r).collision = (s.session r).collision) ∧
  (∀ (r : Reader) (c : Nat) (s : State), s.phase = .running → (s.session r).collision = some c →
    (∀ d, (s.session r).display = some d → c ≤ d) →
    ∃ t, exec (.outcomeDisplayExpiry r) s = .next t ∧ t.now = max s.now c ∧
      t.session r = { s.session r with collision := none } ∧ t.session (otherReader r) = s.session (otherReader r) ∧
      t.cards.presence0 = s.cards.presence0 ∧ t.cards.presence1 = s.cards.presence1) ∧
  ∀ (n : Nat) (s : State),
    let runs := fun (e : RecoveryEntry) => e.number = n ∧ s.now < e.honourDeadline ∧
      (e ∈ s.recovery ∨ ∃ pos st, StagingEntry.mark pos st (some e) ∈ s.journal.staging)
    (∀ e, runs e → (∀ f, runs f → e.honourDeadline ≤ f.honourDeadline) →
      exec (.honourWindowExpiry n) s = .next { s with now := e.honourDeadline }) ∧
    ((∀ e, ¬ runs e) → exec (.honourWindowExpiry n) s = .next s)

/-- No WRITE or BLOCK is sent to a card unless the store has just reported the record program of that session's intent
programmed; and every command keeps an outstanding IDENTIFY in IDENTIFYING. -/
def Obligations.NoCardWriteBeforeItsIntent : Prop :=
  (∀ (c : Instr) (r : Reader) (s t : State), exec c s = .next t → (s.session r).identifyFits →
    (t.session r).identifyFits) ∧
  ∀ (c : Instr) (r : Reader) (s t : State), exec c s = .next t → t.cardWriteSent r → ¬ s.cardWriteSent r →
    c = .journalOperationComplete true ∧
    ∃ rec pos rest op, s.journal.staging = .record rec pos (.session r) :: rest ∧
      s.store.op = some op ∧ op.owner = .staging ∧ s.opSucceeds true op = true ∧
      (s.session r).state = .awaitIntent ∧ (s.session r).intentSeq = some rec.seq

/-! ## The aisle -/

/-- A raw change of a beam, an end switch or the emergency line starts, restarts or stops its filter's measure, and changes
nothing else; a beam's or the line's level is taken when it has held, and the tracker takes the event of beam A or B; a
filtered change of the line moves the mode.
How a report and an expiry move the time is the model's choice, log entry 28. -/
def Obligations.FilteredLinesAndBeams : Prop :=
  (∀ (at_ : Nat) (level : Bool) (s : State), s.phase = .running →
    let now := max s.now at_
    let after := fun (f : Filtered) =>
      if level = f.raw then f
      else { f with
        raw := level,
        timer := if level = f.level then none else some (now + 1000 * s.settings.inForce.sensorFilter) }
    (∀ b : Beam, exec (.sensorRawChange at_ (.beam b) level) s = .next { s with
      now := now,
      aisle := s.aisle.setBeam b { s.aisle.beam b with line := after (s.aisle.beam b).line } }) ∧
    (∀ (side : LeafSide) (e : LeafEnd), exec (.sensorRawChange at_ (.endSwitch side e) level) s = .next { s with
      now := now,
      drive := s.drive.setLeaf side ((s.drive.leaf side).setSwitch e (after ((s.drive.leaf side).switch e))) }) ∧
    exec (.sensorRawChange at_ .emergencyLine level) s = .next { s with
      now := now, aisle := { s.aisle with emergencyLine := after s.aisle.emergencyLine } }) ∧
  (∀ (b : Beam) (d : Nat) (s : State), s.phase = .running → (s.aisle.beam b).line.timer = some d →
    let blocked := (s.aisle.beam b).line.raw
    ∃ t, exec (.beamFilteredChange b) s = .next t ∧ t.now = max s.now d ∧ (t.aisle.beam b).line.level = blocked ∧
      (t.aisle.beam b).line.timer = none ∧ (blocked = false → (t.aisle.beam b).stuck = false) ∧
      (b = .S → t.aisle.phase = s.aisle.phase ∧ t.aisle.credits = s.aisle.credits ∧ t.aisle.claim = s.aisle.claim) ∧
      (b = .S → blocked = true → ∀ side, (t.drive.leaf side).state ≠ .closing ∨ (s.drive.leaf side).state ≠ .closing) ∧
      (b ≠ .S → ∃ a : Aisle, a = { s.aisle with beamA := a.beamA, beamS := a.beamS, beamB := a.beamB } ∧
        (a.beam b).line.level = blocked ∧
        t = (({ s with now := max s.now d, aisle := a } : State).track (decide (b = .A)) blocked).startStore)) ∧
  ∀ (d : Nat) (s : State), s.phase = .running → s.aisle.emergencyLine.timer = some d →
    ∃ t, exec .emergencyLineFilteredChange s = .next t ∧ t.now = max s.now d ∧
      t.aisle.emergencyLine = { s.aisle.emergencyLine with level := s.aisle.emergencyLine.raw, timer := none } ∧
      t.aisle.mode = (if s.aisle.emergencyLine.raw = true ∨ s.aisle.hostEmergency = true then .emergency
        else s.aisle.returnMode) ∧
      t.aisle.returnMode = s.aisle.returnMode ∧ t.aisle.hostEmergency = s.aisle.hostEmergency

/-- The passage tracker follows R98's table, the outbound transitions being its mirror; a completion counts once, a
passage that starts takes a FREE claim, and no event leaves the claim held over an empty queue and a CLEAR tracker.  A
completion without a credit makes its EVASION record, and every completion hands an `npas` with its occlusion time.
That the occlusion time drops the fraction of a millisecond is the model's choice, log entry 46. -/
def Obligations.TrackerFollowsItsTable : Prop :=
  (∀ (p : TrackPhase) (flag isA blocked : Bool),
    trackRow p.mirror flag (!isA) blocked =
      (trackRow p flag isA blocked).map fun r => (r.1.mirror, r.2.1, r.2.2.1, otherWay r.2.2.2)) ∧
  (∀ flag : Bool,
    trackRow .clear flag true true = some (.inA, false, .start, .inbound) ∧
    trackRow .inA flag true false = some (.clear, false, .backout, .inbound) ∧
    trackRow .inA flag false true = some (.inAB, flag, .step, .inbound) ∧
    trackRow .inAB flag true false = some (.inB, true, .leadPast, .inbound) ∧
    trackRow .inAB false false false = some (.inA, false, .retreat, .inbound) ∧
    trackRow .inAB true false false = some (.inA, false, .handover, .inbound) ∧
    trackRow .inB flag false false = some (.clear, false, .completion, .inbound) ∧
    trackRow .inB flag true true = some (.inAB, flag, .follower, .inbound)) ∧
  ∀ (isA blocked : Bool) (s : State) (p : TrackPhase) (flag : Bool) (e : TrackEffect) (d : Direction),
    trackRow s.aisle.phase s.aisle.leadPast isA blocked = some (p, flag, e, d) →
    let t := s.track isA blocked
    let completes := e = .completion ∨ e = .handover
    let paid := ∃ c ∈ s.aisle.credits, c.state = .active ∧ c.direction = d
    t.aisle.phase = p ∧ t.aisle.leadPast = flag ∧
    t.aisle.inboundCount = (if completes ∧ d = .inbound then (s.aisle.inboundCount + 1) % 4294967296
      else s.aisle.inboundCount) ∧
    t.aisle.outboundCount = (if completes ∧ d = .outbound then (s.aisle.outboundCount + 1) % 4294967296
      else s.aisle.outboundCount) ∧
    (completes → paid → t.aisle.unpaidCount = s.aisle.unpaidCount ∧
      t.aisle.credits.length + 1 = s.aisle.credits.length) ∧
    (completes → ¬ paid → t.aisle.unpaidCount = (s.aisle.unpaidCount + 1) % 4294967296 ∧
      t.aisle.credits = s.aisle.credits ∧
      (s.aisle.mode = .normal ∨ s.aisle.mode = .outOfService → t.link.flag
        (if excludes s.aisle.direction d = true ∨ s.aisle.claim = some (otherWay d) then .wrongWay else .evasion) = true) ∧
      (s.aisle.mode = .normal ∨ s.aisle.mode = .outOfService → s.journal.room 1 = true → ∃ rec pos,
        t.journal.staging = s.journal.staging ++ [.record rec pos .single] ∧ rec.kind = .evasion ∧
        rec.reader = readerOf (otherWay d) ∧ rec.minute = s.minute ∧ rec.number = 0 ∧ rec.fare = 0 ∧
        rec.reason = (if excludes s.aisle.direction d = true ∨ s.aisle.claim = some (otherWay d) then 49 else 48)) ∧
      (s.aisle.mode = .manual ∨ s.aisle.mode = .emergency → t.journal = s.journal)) ∧
    (completes → s.link.mask.getLsbD 30 = true → s.link.output.length < 10 →
      let credit := s.aisle.credits.find? fun c => c.isActive && decide (c.direction = d)
      OutMessage.npas d (credit.map (·.source)) (credit.bind (·.seq))
        (min ((s.now - s.aisle.leadStart.getD s.now) / 1000) 65535) ∈ t.link.output) ∧
    (e = .start → s.aisle.claim = none → t.aisle.claim = some d) ∧
    (e = .follower → s.aisle.mode = .normal ∨ s.aisle.mode = .outOfService →
      s.aisle.credits.countP (fun c => c.isActive && decide (c.direction = d)) < 2 → t.link.flag .tailgate = true) ∧
    (t.aisle.claim ≠ none → t.aisle.credits ≠ [] ∨ t.aisle.phase ≠ .clear)

/-- The aisle's timers: a credit expires with its UNUSED record, the close delay ends, LOITER and BEAM_STUCK are raised;
what is pending takes effect when the hold's conditions hold: the tracker is CLEAR and no leaf moves, the group credits take
in the queue, the polarity finds both leaves FREE, and the start mode waits for the scan.
LOITER at the limit and one flag for the first stuck beam are the model's inferences, log entries 29 and 32; how an expiry
moves the time is its choice, log entry 28. -/
def Obligations.AisleTimersAndPendingSettings : Prop :=
  (∀ (d : Nat) (c : Credit) (s : State), s.phase = .running → s.aisle.window = .running d →
    s.aisle.credits.find? Credit.isActive = some c → ∃ t, exec .creditExpiry s = .next t ∧ t.now = max s.now d ∧
      t.aisle.credits = s.aisle.credits.eraseP Credit.isActive ∧
      (t.aisle.anyActive = false → t.aisle.window = .stopped ∧
        t.aisle.closeDelay = some (max s.now d + 1000 * s.settings.inForce.closeDelay)) ∧
      (c.source = .staff → t.journal.nextSeq = s.journal.nextSeq) ∧
      (c.source = .card → s.journal.room 1 = true → ∃ rec pos, t.journal.staging = s.journal.staging ++
        [.record rec pos .single] ∧ rec.kind = .unused ∧ rec.reason = reasonExpired ∧
        rec.referenced = some (c.seq.getD 0) ∧ rec.reader = readerOf c.direction ∧ rec.number = 0 ∧ rec.fare = 0)) ∧
  (∀ (d : Nat) (s : State), s.phase = .running → s.aisle.closeDelay = some d → ∃ t,
    exec .closeDelayExpiry s = .next t ∧ t.now = max s.now d ∧ t.aisle.closeDelay = none ∧
    (s.aisle.mode = .normal → s.aisle.anyActive = false →
      t.aisle.target = if s.aisle.beamS.line.level then s.aisle.target else .closed)) ∧
  (∀ (d : Nat) (s : State), s.phase = .running → s.aisle.passageLimit = some d → exec .loiter s =
    .next ({ s with now := max s.now d, aisle := { s.aisle with passageLimit := none } }.raise .loiter)) ∧
  (∀ (b : Beam) (d : Nat) (s : State), s.phase = .running → (s.aisle.beam b).measure = some d → ∃ t,
    exec (.beamStuck b) s = .next t ∧ t.now = max s.now d ∧
    t.aisle = s.aisle.setBeam b { s.aisle.beam b with stuck := true, measure := none } ∧
    ((∀ x, (s.aisle.beam x).stuck = false) → t.link.flag .beamStuck = true)) ∧
  ∀ s : State, s.phase = .running → ∃ t, exec .pendingSettingsTakeEffect s = .next t ∧
    let moves := fun (l : Leaf) => l.state = .opening ∨ l.state = .closing ∨ l.state = .braking
    let held := s.aisle.phase ≠ .clear ∨ moves s.drive.left ∨ moves s.drive.right
    let due := fun (id : Nat) => ¬ held ∧ id ≠ 12 ∧
      (id = 6 → s.aisle.credits.length ≤ s.settings.stored.groupCredits) ∧
      (22 ≤ id → id ≤ 29 → s.drive.left.state = .free ∧ s.drive.right.state = .free)
    t.settings.stored = s.settings.stored ∧
    (∀ id, id ∈ t.settings.pending ↔ id ∈ s.settings.pending ∧ ¬ due id) ∧
    (held → t.settings = s.settings ∧ t.aisle = s.aisle) ∧
    (∀ id, 1 ≤ id → id ≤ 29 → t.settings.inForce.get id =
      (if id ∈ s.settings.pending ∧ due id then s.settings.stored.get id else s.settings.inForce.get id)) ∧
    (¬ held → ∀ d, s.aisle.pendingDirection = some d → t.aisle.direction = d ∧ t.aisle.pendingDirection = none)

/-! ## The leaf drive -/

/-- An arrival, a push off an end, both switches active: what a leaf does on a filtered change of an end switch.  LEAF_SLOW is
raised exactly at a capture, at either end, whose time exceeds the threshold in use.  A leaf pushed off its end drives back, or
is FREE under the target FREE; one pushed off its closed end while a condition of R115 fails makes an S reversal.
What a leaf does under the target FREE is log entry 33; how an expiry moves the time is the model's choice, log entry 28. -/
def Obligations.EndSwitchesEndMotions : Prop :=
  ∀ (side : LeafSide) (e : LeafEnd) (d : Nat) (s : State), s.phase = .running →
    let l := s.drive.leaf side
    (l.switch e).timer = some d → ∃ t, exec (.endSwitchFilteredChange side e) s = .next t ∧ t.now = max s.now d ∧
      let m := t.drive.leaf side
      let active := (l.switch e).raw
      let otherActive := match e with | .openEnd => l.closedSwitch.level | .closedEnd => l.openSwitch.level
      let time := l.motionStart.map fun x => (max s.now d - x) / 1000
      (m.switch e).level = active ∧
      (active = true → otherActive = true → l.state ≠ .stalled → m.state = .stalled ∧ m.bridge = .off ∧ m.window = [] ∧
        m.reversal = false ∧ m.motionStart = none ∧ t.link.flag .leafStall = true) ∧
      (active = true → otherActive = false → l.state = .opening → e = .openEnd → l.reversal = false →
        s.drive.inForce ≠ .closed → m.state = .open ∧ m.bridge = .off ∧ m.lastOpen = time.getD l.lastOpen) ∧
      (active = true → otherActive = false → l.state = .opening → e = .openEnd → l.reversal = true → m.reversal = false ∧
        (l.count < s.settings.inForce.obstructionRetries → m.state = .open ∧
          m.reopen = some (max s.now d + 1000 * s.settings.inForce.reopenHold)) ∧
        (s.settings.inForce.obstructionRetries ≤ l.count → m.state = .heldOpen ∧ t.link.flag .leafObstructed = true)) ∧
      (active = true → otherActive = false → l.state = .closing → e = .closedEnd → s.drive.inForce ≠ .open →
        m.state = .closed ∧ m.bridge = .off ∧ m.count = 0 ∧ m.lastClose = time.getD l.lastClose) ∧
      (let threshold := if s.settings.inForce.motionLimit ≤ s.settings.inForce.slowThreshold then
          s.settings.inForce.motionLimit - 100 else s.settings.inForce.slowThreshold
       let arrives := active = true ∧ otherActive = false ∧
         (l.state = .opening ∧ e = .openEnd ∨ l.state = .closing ∧ e = .closedEnd)
       (arrives → t.link.flag .leafSlow = (s.link.flag .leafSlow || time.any fun x => decide (threshold < x))) ∧
       (¬ arrives → t.link.flag .leafSlow = s.link.flag .leafSlow)) ∧
      (active = false → l.state = .open → e = .openEnd → s.drive.inForce ≠ .free →
        m.state = .opening) ∧
      (active = false → l.state = .open → e = .openEnd → s.drive.inForce = .free → m.state = .free) ∧
      (active = false → l.state = .closed → e = .closedEnd → s.drive.inForce = .free → m.state = .free) ∧
      (active = false → l.state = .closed → e = .closedEnd → s.drive.inForce ≠ .free →
        let mayClose := s.aisle.beamS.line.level = false ∧ s.aisle.mode ≠ .emergency ∧ l.reopen = none
        (mayClose → m.state = .closing) ∧
        (¬ mayClose → l.openSwitch.level = false → m.state = .opening ∧ m.reversal = true))

/-- The bridge's and the motion's timers: deadtime, with the four after-brake actions, brake interval, motion limit, blanking,
current samples and reopen hold.
The order of R128's cases and the leaf states during a deadtime are the model's inferences, log entries 22 and 37; how an
expiry moves the time and when the first sample comes are its choices, log entries 28 and 50. -/
def Obligations.LeafTimersAndSamples : Prop :=
  (∀ (side : LeafSide) (d : Nat) (s : State), s.phase = .running → (s.drive.leaf side).deadtime = some d →
    let l := s.drive.leaf side
    ∃ t, exec (.deadtimeExpiry side) s = .next t ∧ t.now = max s.now d ∧
      let m := t.drive.leaf side
      (l.state = .opening ∨ l.state = .closing → m.state = l.state ∧
        m.bridge = (if l.state = .opening then .driveOpen else .driveClose) ∧ m.motionStart = some t.now ∧
        m.motionLimit = some (t.now + 1000 * s.settings.inForce.motionLimit) ∧
        m.sampling = some (t.now + 1000) ∧ m.window = []) ∧
      (l.state = .braking → l.braked = false → m.state = .braking ∧ m.bridge = .brake ∧
        m.brake = some (t.now + 1000 * s.settings.inForce.brakeInterval)) ∧
      (l.state = .braking → l.braked = true → l.action = some .stall →
        m.state = .stalled ∧ m.bridge = .off ∧ m.count = l.count ∧ t.link.flag .leafStall = true) ∧
      (l.state = .braking → l.braked = true → l.action = some .open → l.bothActive = false →
        (l.openSwitch.level = false → m.state = .opening) ∧
        (l.openSwitch.level = true → m.lastOpen = l.lastOpen ∧
          (l.reversal = false → s.drive.inForce ≠ .closed → m.state = .open) ∧
          (l.reversal = true → l.count < s.settings.inForce.obstructionRetries → m.state = .open ∧
            m.reopen = some (t.now + 1000 * s.settings.inForce.reopenHold)) ∧
          (l.reversal = true → s.settings.inForce.obstructionRetries ≤ l.count →
            m.state = .heldOpen ∧ t.link.flag .leafObstructed = true))) ∧
      (l.state = .braking → l.braked = true → l.action = some .close → l.bothActive = false →
        let mayClose := s.aisle.beamS.line.level = false ∧ s.aisle.mode ≠ .emergency ∧ l.reopen = none
        (l.closedSwitch.level = true → s.drive.inForce ≠ .open → m.state = .closed ∧ m.bridge = .off ∧ m.count = 0 ∧
          m.lastClose = l.lastClose) ∧
        (l.closedSwitch.level = false → mayClose → m.state = .closing) ∧
        (l.closedSwitch.level = false → ¬ mayClose → l.openSwitch.level = false →
          m.state = .opening ∧ m.reversal = true)) ∧
      (l.state = .braking → l.braked = true → l.action = some .free → s.drive.inForce = .free →
        m.state = .free ∧ m.reversal = false ∧ m.action = none)) ∧
  (∀ (side : LeafSide) (d : Nat) (s : State), s.phase = .running → (s.drive.leaf side).brake = some d →
    ∃ t, exec (.brakeIntervalExpiry side) s = .next t ∧ t.now = max s.now d ∧
      let m := t.drive.leaf side
      m.state = (s.drive.leaf side).state ∧ m.bridge = .off ∧ m.braked = true ∧
      m.deadtime = some (t.now + s.settings.inForce.deadtime)) ∧
  (∀ (side : LeafSide) (d : Nat) (s : State), s.phase = .running → (s.drive.leaf side).motionLimit = some d →
    ∃ t, exec (.motionLimitExpiry side) s = .next t ∧ t.now = max s.now d ∧
      let m := t.drive.leaf side
      ((s.drive.leaf side).state = .opening ∨ (s.drive.leaf side).state = .closing →
        m.state = .braking ∧ m.action = some .stall ∧ m.count = (s.drive.leaf side).count ∧
        m.lastOpen = (s.drive.leaf side).lastOpen ∧ m.lastClose = (s.drive.leaf side).lastClose ∧
        m.bridge ≠ .driveOpen ∧ m.bridge ≠ .driveClose)) ∧
  (∀ (side : LeafSide) (d : Nat) (s : State), s.phase = .running → (s.drive.leaf side).blanking = some d →
    exec (.inrushBlankingExpiry side) s = .next { s with
      now := max s.now d, drive := s.drive.setLeaf side { s.drive.leaf side with blanking := none } }) ∧
  (∀ (side : LeafSide) (ma : Nat) (s : State), s.phase = .running →
    let l := s.drive.leaf side
    let driven := l.bridge = .driveOpen ∨ l.bridge = .driveClose
    let w := (l.window ++ [min ma 8000]).drop (l.window.length - 7)
    let met := w.length = 8 ∧ s.settings.inForce.inrushBlanking < s.settings.inForce.motionLimit ∧
      s.settings.inForce.obstructionThreshold < w.sum / 8
    (l.sampling = none → exec (.currentSample side ma) s = .next s) ∧
    (∀ d, l.sampling = some d → ¬ driven ∨ l.blanking ≠ none → exec (.currentSample side ma) s = .next { s with
      now := max s.now d, drive := s.drive.setLeaf side { l with sampling := some (d + 1000) } }) ∧
    (∀ d, l.sampling = some d → driven → l.blanking = none → ∃ t, exec (.currentSample side ma) s = .next t ∧
      t.now = max s.now d ∧
      let m := t.drive.leaf side
      (¬ met → m = { l with window := w, sampling := some (d + 1000) }) ∧
      (met → l.state = .closing → m.state = .braking ∧ m.action = some .open ∧ m.reversal = true ∧
        m.count = (if l.count < 7 then l.count + 1 else 7)) ∧
      (met → l.state = .opening → m.state = .braking ∧ m.action = some .stall ∧ m.count = l.count))) ∧
  ∀ (side : LeafSide) (d : Nat) (s : State), s.phase = .running → (s.drive.leaf side).reopen = some d →
    let l := s.drive.leaf side
    ∃ t, exec (.reopenHoldExpiry side) s = .next t ∧ t.now = max s.now d ∧
      let m := t.drive.leaf side
      (l.state = .open → s.drive.inForce = .closed → l.bothActive = false → s.aisle.beamS.line.level = false →
        s.aisle.mode ≠ .emergency → m.state = .closing) ∧
      (l.state = .open → s.drive.inForce = .closed → l.bothActive = false → s.aisle.beamS.line.level = true →
        m.state = .open ∧ m.reopen = none) ∧
      (l.state = .stalled → s.aisle.mode = .emergency → s.drive.inForce = .open → l.bothActive = false →
        m.state = (if l.openSwitch.level then .open else .opening)) ∧
      (l.state = .stalled → s.aisle.mode = .emergency → l.bothActive = true ∨ s.drive.inForce ≠ .open →
        m.state = .stalled ∧ m.reopen = some (t.now + 1000 * s.settings.inForce.reopenHold)) ∧
      (l.state = .stalled → s.aisle.mode ≠ .emergency → m.state = .stalled ∧ m.reopen = none)

/-- The bridge states fix their four switches, no half ever has both of its switches on, and in service each output
stands at the level that its polarity gives. -/
def Obligations.BridgeStatesFixTheirSwitches : Prop :=
  (∀ sw : BridgeSwitch, Bridge.off.on sw = false) ∧
  (Bridge.driveOpen.on .highA = true ∧ Bridge.driveOpen.on .lowA = false ∧ Bridge.driveOpen.on .highB = false ∧
    Bridge.driveOpen.on .lowB = true) ∧
  (Bridge.driveClose.on .highA = false ∧ Bridge.driveClose.on .lowA = true ∧ Bridge.driveClose.on .highB = true ∧
    Bridge.driveClose.on .lowB = false) ∧
  (Bridge.brake.on .highA = false ∧ Bridge.brake.on .lowA = true ∧ Bridge.brake.on .highB = false ∧
    Bridge.brake.on .lowB = true) ∧
  (∀ b : Bridge, ¬ (b.on .highA = true ∧ b.on .lowA = true) ∧ ¬ (b.on .highB = true ∧ b.on .lowB = true)) ∧
  (∀ (side : LeafSide) (sw : BridgeSwitch) (s : State), s.phase = .running →
    s.bridgeOutput side sw = some (if s.settings.inForce.polarity.getLsbD (outputIndex side sw) then
      !(s.drive.leaf side).bridge.on sw else (s.drive.leaf side).bridge.on sw)) ∧
  (∀ (x y : LeafSide × BridgeSwitch), outputIndex x.1 x.2 = outputIndex y.1 y.2 → x = y) ∧
  ∀ (x : LeafSide × BridgeSwitch), outputIndex x.1 x.2 < 8

/-! ## The store -/

/-- When the store falls idle in service with no supply warning, the oldest staging entry goes first, then the journal's
erase work, then the front job; a store in use, a supply warning or a reset starts nothing.  A refresh of sector 0 erases it
only while a valid FLOOR record of sector 1 or 2 holds the floor in force, and puts back the IDENTITY record that was in force;
and no erase of a control sector removes the only valid FLOOR record of a floor in force above 0.
Where the identity is held across the erase is the model's inference, log entry 48; what a refresh of sector 1 or 2 does when
sector 0 lacks the floor, and where the floor stands in the FLOOR record's body, are its choices, log entries 57 and 8, and so
is the generation after 4,294,967,295, log entry 65. -/
def Obligations.ArbiterServesTheJournalFirst : Prop :=
  ∀ s : State,
    (s.store.op.isSome = true ∨ s.supplyWarning = true ∨ s.phase = .off ∨ s.phase = .inReset → s.startStore = s) ∧
    (s.store.op = none → s.supplyWarning = false → s.phase = .running →
      (∀ e rest, s.journal.staging = e :: rest → s.startStore = { s with store := { s.store with
        op := some { action := e.action, owner := .staging, next := none,
                     deadline := some (s.now + e.action.kind.maxTime) } } }) ∧
      (s.journal.staging = [] → s.journal.eraseWork = .idle → s.journal.oldestWaiting = none → ∀ j rest,
        s.store.jobs = j :: rest → ∃ op, s.startStore.store.op = some op ∧ op.owner = .job ∧
          op.deadline = some (s.now + op.action.kind.maxTime) ∧ s.startStore.journal = s.journal ∧
          s.startStore.store.jobs.length = s.store.jobs.length) ∧
      (s.journal.staging = [] → s.journal.eraseWork = .idle → ∀ k, s.journal.oldestWaiting = some k →
        ∃ op, s.startStore.store.op = some op ∧ op.owner = .floorWrite ∧
          s.startStore.journal.eraseWork = .floor k (s.journal.floorFor k) 0 ∧ s.startStore.store.jobs = s.store.jobs) ∧
      (s.journal.staging = [] → s.journal.eraseWork = .idle → s.journal.oldestWaiting = none → s.store.jobs = [] →
        s.startStore = s)) ∧
    (let holdsFloor := fun (sector : Nat) => ∃ r ∈ controlRecords s.store.memory sector,
       r.kind = ControlRecordKind.floor.code ∧ field r.body 0 4 = s.journal.floor
     let keeps := fun (a : StoreAction) => ∀ sector, a = .erase sector → sector < 3 → s.journal.floor ≠ 0 →
       (∃ k, k < 3 ∧ holdsFloor k) → ∃ k, k < 3 ∧ k ≠ sector ∧ holdsFloor k
     (∀ (k : ControlRecordKind) (body : List Byte) (stage : Nat), keeps (s.sector0Step k body stage).1 ∧
       ((s.sector0Step k body stage).1 = .erase 0 → holdsFloor 1 ∨ holdsFloor 2)) ∧
     (∀ j : Job, keeps (s.jobStep j).1) ∧ ∀ w : ScanOp, keeps (s.scanAction w).1) ∧
    (∀ (op : StoreOp) (ok : Bool), op.action = .erase 0 → (s.endOp ok op).store.identityKept =
      (recordInForce s.store.memory 0 .identity).map fun r => identityOf r.body) ∧
    ∀ (i : Identity) (k : ControlRecordKind) (body : List Byte), s.station.identity.isSome = true →
      s.station.lock ≠ .locked → s.store.identityKept = some i → s.store.fill0 ≤ 63 →
      (s.sector0Step k body 5).1 = .program .recordProgram (slotAddr 0 s.store.fill0)
        (encodeControl .identity (nextGeneration s.store.memory 0 .identity) (identityBytes i))

/-- The journal's completions: what each report does.  The store holds what the operation wrote or erased, or, after a
failure or a timeout, as far as it came; a control sector's fill position follows its bytes.
How far a failed operation came is a free value, log entry 3; where the fill position stands after it is the model's inference,
log entry 53.  What follows a failure of the erase work is the model's inference, log entry 30; how the timeout moves the time is its
choice, log entry 28, and that a prepared entry over age does not enter is its inference, log entry 63. -/
def Obligations.JournalReportsAreTaken : Prop :=
  ∀ (op : StoreOp) (ok : Bool) (s : State), s.phase = .running → s.supplyWarning = false → s.store.op = some op →
    let success := s.opSucceeds ok op
    (∀ c : Instr,
      (match op.owner with
        | .staging => c = .journalOperationComplete ok
        | .floorWrite => c = .floorProgramComplete ok
        | .journalErase _ => c = .journalSectorEraseComplete ok
        | .job | .scan => False) →
      ∃ t, exec c s = .next t ∧
        t.store.memory = (if ok then s.store.memory.carryOut op.action else s.store.memory.tearAction s.free op.action) ∧
        (op.action.sector < 3 →
          t.store.fill op.action.sector = fillPosition t.store.memory op.action.sector)) ∧
    (op.owner = .staging → ∀ rec pos owner rest, s.journal.staging = .record rec pos owner :: rest →
      ∃ t, exec (.journalOperationComplete ok) s = .next t ∧
        (success = true → owner = .single → t.journal.staging = rest) ∧
        (success = true → owner = .voidOwed → ∀ p, s.journal.posOf rec.seq = some p →
          t.journal.staging = rest ++ [.mark p .void none]) ∧
        (success = true → ∀ r, owner = .session r → (s.session r).state = .awaitIntent →
          (s.session r).intentSeq = some rec.seq → t.journal.staging = rest ∧ (t.session r).state = .writing ∧
          t.cardWriteSent r ∧ (∀ card, (s.session r).card = some card →
            (∀ d, (s.session r).blockPath = false → (s.session r).decision = some d →
              (t.session r).exchange = some (.write (encodeImage d.image) card.counter)) ∧
            ((s.session r).blockPath = true → (t.session r).exchange = some (.block card.counter))) ∧
          (t.session r).answerWindow = some (s.now + 1000 * s.settings.inForce.answerWindow) ∧
          (t.session r).honourDeadline = s.now + 1000000 * s.settings.inForce.honourWindow) ∧
        (success = false → t.journal.staging = .damagedMark pos :: rest ∧ t.link.flag .storeFault = true ∧
          t.store.faultCount = min (s.store.faultCount + 1) 65535 ∧
          ∀ r, owner = .session r → (s.session r).state = .awaitIntent → (s.session r).intentSeq = some rec.seq →
            (s.session r).outcome = none →
            (t.session r).state = .holdoff ∧ (t.session r).outcome = some .writeFailed ∧ s.creditRemoved t r)) ∧
    (op.owner = .staging → ∀ pos st prepared rest, s.journal.staging = .mark pos st prepared :: rest →
      ∃ t, exec (.journalOperationComplete ok) s = .next t ∧ t.journal.staging = rest ∧
        (success = true → prepared = none → t.recovery = s.recovery) ∧
        (success = true → ∀ e, prepared = some e →
          (s.clock.seconds / 60 - e.minute ≤ s.settings.inForce.recoveryLifetime → t.recovery.getLast? = some e) ∧
          (s.settings.inForce.recoveryLifetime < s.clock.seconds / 60 - e.minute → t.recovery = s.recovery)) ∧
        (success = false → t.recovery = s.recovery ∧ t.link.flag .storeFault = true)) ∧
    (op.owner = .staging → ∀ pos rest, s.journal.staging = .damagedMark pos :: rest →
      ∃ t, exec (.journalOperationComplete ok) s = .next t ∧ t.journal.staging = rest ∧ t.recovery = s.recovery ∧
        (success = false → t.link.flag .storeFault = true)) ∧
    (op.owner = .floorWrite → ∀ k value n, s.journal.eraseWork = .floor k value n → s.journal.staging = [] →
      ∃ t, exec (.floorProgramComplete ok) s = .next t ∧
        (success = true → op.next = none → t.journal.floor = max s.journal.floor value ∧
          t.store.op = some { action := .erase (39 + k), owner := .journalErase k, next := none,
                              deadline := some (s.now + 45000) }) ∧
        (success = false → t.journal.floor = s.journal.floor ∧ t.link.flag .storeFault = true)) ∧
    (∀ k, op.owner = .journalErase k → ∃ t, exec (.journalSectorEraseComplete ok) s = .next t ∧
      (success = true → (∀ p ∈ t.journal.positions, p.pos / 64 ≠ k) ∧
        (∀ p ∈ s.journal.positions, p.pos / 64 ≠ k → p ∈ t.journal.positions) ∧
        ∀ e ∈ t.recovery, e.seq ∉ s.journal.sectorSeqs k) ∧
      (success = false → t.journal.positions = s.journal.positions ∧ t.journal.eraseWork = .held ∧
        t.recovery = s.recovery ∧ t.link.flag .storeFault = true)) ∧
    (∀ d, op.deadline = some d → ∃ t, exec .storeOperationTimeout s = .next t ∧
      t = State.completeOp false op { s with now := max s.now d } ∧
      t.store.memory = s.store.memory.tearAction s.free op.action)

/-- The jobs' completions: a job goes on to its next operation and stays in front, ends done with its owner's effect, or ends
failed at an operation that failed verify.  The store holds what the operation wrote or erased, or, after a failure, as far as
it came; a control sector's fill position follows its bytes.  A lock entry's end makes the next blank one the next to be used; an arm that fails leaves
nothing staged, and the table of one that ends done is ARMED, or active at once when it falls due.
How far a failed operation came is a free value, log entry 3; where the fill position stands after it is the model's inference,
log entry 53, and so is the count of lock entries spent, log entry 31; the place and the size of a lock entry are its
choice, log entry 8. -/
def Obligations.JobReportsAreTaken : Prop :=
  ∀ (op : StoreOp) (ok : Bool) (j : Job) (rest : List Job) (s : State), s.phase = .running → s.supplyWarning = false →
    s.store.op = some op → op.owner = .job → s.store.jobs = j :: rest →
    ∀ c : Instr,
      (match j.kind with
        | .control _ => c = .controlRecordWriteComplete ok
        | .lockEntry => c = .lockEntryProgramComplete ok
        | .deltaSlot _ _ => c = .deltaSlotProgramComplete ok
        | .hotRewrite _ => c = .hotListRewriteComplete ok
        | .arm _ => c = .armJobOperationComplete ok
        | .fareMark _ _ => c = .fareMarkJobComplete ok
        | .withdrawal _ => c = .withdrawalComplete ok
        | .denyBank _ => c = .bankJobOperationComplete ok
        | .denyMark _ _ => c = .denyMarkJobComplete ok
        | .logErase => c = .logEraseComplete ok) →
      ∃ t, exec c s = .next t ∧
      let success := s.opSucceeds ok op
      let ended := success = false ∨ op.next = none
      let image := s.loader.staged.image
      let due := field image 4 4 ≤ s.clock.seconds / 60 ∧ s.clock.valid = true ∧ s.atBoundary = true
      let behind : List Job := rest ++ (match success, j.kind with
        | true, .denyMark _ _ => [{ kind := .logErase, step := 0, running := false }]
        | true, .arm _ =>
          if decide (field image 4 4 ≤ s.clock.seconds / 60) && s.clock.valid && s.atBoundary then
            [{ kind := .fareMark s.loader.stagingBank (field image 0 4), step := 0, running := false }]
          else []
        | _, _ => [])
      t.store.memory = (if ok then s.store.memory.carryOut op.action else s.store.memory.tearAction s.free op.action) ∧
      (op.action.sector < 3 → t.store.fill op.action.sector = fillPosition t.store.memory op.action.sector) ∧
      (success = true → ∀ n, op.next = some n → ∃ j', t.store.jobs = j' :: rest ∧ j'.step = n ∧
        (j.running = true → j' = { j with step := n }) ∧
        ((∀ list, j.kind ≠ .hotRewrite list) → j'.kind = j.kind) ∧ t.loader = s.loader ∧ t.station = s.station) ∧
      (ended → t.store.jobs.length = behind.length ∧ t.store.jobs.tail = behind.tail ∧
        (s.journal.staging ≠ [] → t.store.jobs = behind)) ∧
      (success = false → t.link.flag .storeFault = true ∧ t.store.latestFault = some (op.action.kind, op.action.sector)) ∧
      (ended → (match j.kind with
        | .control _ | .deltaSlot _ _ | .hotRewrite _ | .withdrawal _ => t.loader = s.loader ∧ t.station = s.station
        | .lockEntry => t.station.lock = (if success then .locked else .unlocked) ∧
            t.station.spent = s.station.spent + 1 ∧
            (s.station.nextLock < 4 → s.station.nextLock < t.station.nextLock) ∧
            (∀ i, s.station.nextLock < i → i < t.station.nextLock → t.store.memory.blank (lockEntryAddr i) 6 = false) ∧
            (t.station.nextLock < 4 → t.store.memory.blank (lockEntryAddr t.station.nextLock) 6 = true)
        | .arm _ =>
            (success = false → t.fare = s.fare ∧ t.loader.staged = .empty ∧
              t.loader.stagingBank = (if s.loader.activeBank = none then .A else s.loader.stagingBank)) ∧
            (success = true → ¬ due → t.fare = s.fare ∧ t.loader = { s.loader with staged := .armed image }) ∧
            (success = true → due → t.fare = some (tableOf image) ∧ t.link.flag .tableActivated = true ∧
              t.loader = { s.loader with staged := .empty, activeBank := some s.loader.stagingBank,
                                         stagingBank := s.loader.stagingBank.other, markPending := true })
        | .fareMark _ _ => t.loader.markPending = false
        | .denyBank _ => t.loader.load = (if success then .staged else .idle)
        | .denyMark b _ => t.loader.markedBank = (if success then some b else s.loader.markedBank) ∧
            (success = false → t.loader.load = .idle)
        | .logErase => t.loader.load = .idle ∧ t.loader.logUse = (if success then 0 else 256)))

/-- An ARMED fare table falls due when its test finds the clock VALID, its effective minute come and no decision interval
open, and becomes the active one in that step: the banks change roles, its mark is pending with its job queued,
TABLE_ACTIVATED is raised, and the readers follow R7 where no table was active.  The end of the last open decision interval
makes that test, and so does FARE_TABLE_ACTIVATION, which does nothing when no table falls due.  A STAGED deny list is stale,
or becomes the active one with its mark job queued for the staging bank.
That FARE_TABLE_ACTIVATION is a test of its own is the model's choice, log entry 52. -/
def Obligations.TableActivationAndDenyTest : Prop :=
  (∀ s : State,
    (s.fareDue = true ↔ (∃ image, s.loader.staged = .armed image) ∧ s.clock.valid = true ∧
      field s.loader.staged.image 4 4 ≤ s.clock.seconds / 60 ∧
      ∀ r, (s.session r).decision = none ∨ (s.session r).outcome ≠ none ∨
        ((s.session r).state ≠ .awaitIntent ∧ (s.session r).state ≠ .writing ∧ (s.session r).state ≠ .querying)) ∧
    (s.phase = .running → s.fareDue = true →
      s.testDue = s.activateFare ∧ exec .fareTableActivation s = .next s.activateFare.startStore) ∧
    (s.phase ≠ .running ∨ s.fareDue = false → s.testDue = s ∧ exec .fareTableActivation s = .next s)) ∧
  (∀ (image : List Byte) (s : State), s.phase = .running → s.loader.staged = .armed image →
    let t := s.activateFare
    t = { s with
      fare := some (tableOf image),
      loader := { s.loader with staged := .empty, activeBank := some s.loader.stagingBank,
                                stagingBank := s.loader.stagingBank.other, markPending := true },
      link := s.link.raise .tableActivated,
      store := { s.store with jobs := s.store.jobs ++
        [{ kind := .fareMark s.loader.stagingBank (field image 0 4), step := 0, running := false }] },
      cards := t.cards } ∧
    (s.fare ≠ none → t.cards = s.cards) ∧
    (s.fare = none → ∀ r, t.session r = (s.session r).follow (t.readerShut r) ∧
      ((s.session r).state = .closed → s.aisle.mode ≠ .outOfService → s.station.identity.isSome = true →
        s.clock.valid = true → excludes s.aisle.direction (directionOfReader r) = false → (t.session r).state = .ready))) ∧
  (∀ (r : Reader) (o : CardOutcome) (charge : Nat) (balance : Option Int) (s : State), s.phase = .running →
    (s.session r).deciding = true →
    let t := s.finish r o charge balance
    let due := s.loader.staged.isArmed = true ∧ s.clock.valid = true ∧
      field s.loader.staged.image 4 4 ≤ s.clock.seconds / 60 ∧ (s.session (otherReader r)).deciding = false
    (due → t.fare = some (tableOf s.loader.staged.image) ∧ t.loader.staged = .empty ∧ t.loader.markPending = true ∧
      t.loader.activeBank = some s.loader.stagingBank ∧ t.loader.stagingBank = s.loader.stagingBank.other ∧
      t.link.flag .tableActivated = true) ∧
    (¬ due → t.fare = s.fare ∧ t.loader = s.loader)) ∧
  ∀ s : State, s.phase = .running → s.loader.load = .staged → s.atBoundary = true →
    (s.loader.listVersion ≤ s.check.denyVersion → ∃ t, exec .denyListLoadTest s = .next t ∧ t.check = s.check ∧
      t.loader = { s.loader with load := .idle, list := [], listVersion := 0, listCount := 0 } ∧
      t.link.flag .denyStale = true ∧
      t = ({ s with loader := t.loader, link := s.link.raise .denyStale } : State).startStore) ∧
    (s.check.denyVersion < s.loader.listVersion → ∃ t, exec .denyListLoadTest s = .next t ∧
      t.check = { s.check with denyList := s.loader.list, denyVersion := s.loader.listVersion } ∧
      t.loader = { s.loader with load := .activating } ∧ t.link.flag .denyActivated = true ∧
      let staging : Bank := if s.loader.markedBank = some .A then .B else .A
      t = ({ s with
        check := t.check, loader := t.loader, link := s.link.raise .denyActivated,
        store := { s.store with jobs := s.store.jobs ++
          [{ kind := .denyMark staging s.loader.listVersion, step := 0, running := false }] } } : State).startStore)

/-- Every command keeps the store's canonical form, and leaves every byte that the operation in progress does not write or
erase. -/
def Obligations.StoreKeepsFormAndOtherBytes : Prop :=
  ∀ (c : Instr) (s t : State), exec c s = .next t → s.store.memory.wf = true →
    t.store.memory.wf = true ∧
    ∀ a : Nat, (∀ op, s.store.op = some op → ¬ op.action.covers a) → t.store.memory.read a = s.store.memory.read a

/-- An operation that runs to its end clears the bits asked for and sets none, or erases its sector, and leaves every
other byte.  A torn one leaves every other byte too, each byte of a program between its old value and the value asked for, and
each byte of an erase old or erased.
How far a torn operation came is a free value, log entry 3. -/
def Obligations.StoreOperationsClearBits : Prop :=
  ∀ (m : Memory) (a : Nat), m.wf = true →
    (∀ kind base bs, (m.carryOut (.program kind base bs)).read a =
      if base ≤ a ∧ a < base + bs.length then m.read a &&& bs.getD (a - base) 0xFF#8 else m.read a) ∧
    (∀ k, (m.carryOut (.erase k)).read a = if 4096 * k ≤ a ∧ a < 4096 * k + 4096 then 0xFF#8 else m.read a) ∧
    (∀ n x, x.covers a ∨ (m.tearAction n x).read a = m.read a) ∧
    (∀ n kind base bs, base ≤ a → a < base + bs.length →
      let torn := (m.tearAction n (.program kind base bs)).read a
      torn &&& m.read a = torn ∧ torn &&& (m.read a &&& bs.getD (a - base) 0xFF#8) = m.read a &&& bs.getD (a - base) 0xFF#8) ∧
    ∀ n k, (m.tearAction n (.erase k)).read a = m.read a ∨ (m.tearAction n (.erase k)).read a = 0xFF#8

/-! ## Invariants -/

/-- Every step keeps the leaves safe: bridges fit states, no leaf is driven toward closed while S is blocked or the mode
is EMERGENCY, and the leaves are FREE out of service.
That OPENING and CLOSING stand with the bridge OFF during a deadtime is the model's inference, log entry 37. -/
def Obligations.LeavesStaySafe : Prop :=
  ∀ s t : State, s.leavesSafe → s.drive.left.brakeFits → s.drive.right.brakeFits → step s = .next t →
    t.leavesSafe ∧ t.drive.left.brakeFits ∧ t.drive.right.brakeFits

/-- Every step keeps the aisle claim: held exactly when the queue is non-empty or a passage is in progress, in the
direction of every credit. -/
def Obligations.ClaimStaysSound : Prop :=
  ∀ s t : State, s.aisle.claimSound → step s = .next t → t.aisle.claimSound

/-- Every step, those of a reset and of the start-up scan included, keeps the bounds of the output queue, the sighting table,
the Recovery List, the hot list and the input queue, and the deny lists ascending and within 8,192 entries; it keeps a 520 at
rest outside service, and with that the credit queue within the group credits in force and the staging queue with its
reservations within 8 entries.  It keeps one hot list entry a number, but that the scan takes the hot list as the store holds
it.  Sequence numbers never fall outside a reset and its scan.
What RAM holds without supply is the model's choice, log entry 14. -/
def Obligations.CollectionsStayBounded : Prop :=
  (∀ s t : State, step s = .next t →
    (outputSound s.link.output → outputSound t.link.output) ∧
    (sightingsSound s.check.sightings → sightingsSound t.check.sightings) ∧
    (recoverySound s.recovery → recoverySound t.recovery) ∧
    (s.check.hotList.length ≤ 64 → t.check.hotList.length ≤ 64) ∧
    (s.link.input.length ≤ 4 → t.link.input.length ≤ 4) ∧
    (s.denyListsSound → t.denyListsSound) ∧
    (s.restsOutsideService → t.restsOutsideService ∧
      (s.aisle.claimSound → s.aisle.credits.length ≤ max 1 s.settings.inForce.groupCredits →
        t.aisle.credits.length ≤ max 1 t.settings.inForce.groupCredits) ∧
      (s.stagingSound → t.stagingSound)) ∧
    ((s.phase = .scanning → ((scanHotList s.store.memory).map (·.number)).Nodup) →
      (s.check.hotList.map (·.number)).Nodup → (t.check.hotList.map (·.number)).Nodup)) ∧
  (∀ xs : List OutMessage, outputSound xs → xs.length ≤ 16) ∧
  ∀ (c : Instr) (s t : State), exec c s = .next t → t.phase = .running → s.phase = .running →
    s.journal.nextSeq ≤ t.journal.nextSeq

/-- The machine right after reset meets every invariant stated above. -/
def Obligations.ResetMeetsTheInvariants : Prop :=
  State.reset.store.memory.wf = true ∧ State.reset.leavesSafe ∧ State.reset.drive.left.brakeFits ∧
  State.reset.drive.right.brakeFits ∧ State.reset.aisle.claimSound ∧ outputSound State.reset.link.output ∧
  sightingsSound State.reset.check.sightings ∧ recoverySound State.reset.recovery ∧
  State.reset.check.hotList.length ≤ 64 ∧ State.reset.link.input.length ≤ 4 ∧ State.reset.denyListsSound ∧
  (State.reset.check.hotList.map (·.number)).Nodup ∧ State.reset.stagingSound ∧ State.reset.restsOutsideService ∧
  State.reset.aisle.credits.length ≤ max 1 State.reset.settings.inForce.groupCredits ∧
  ∀ r, (State.reset.session r).identifyFits

/-! ## Readers, fares and images -/

/-- Stage 3 rounds to the nearest multiple of the fare step, an exact half up. -/
def Obligations.FareStepRoundsToTheNearest : Prop :=
  ∀ step f0 : Nat, step ∈ [1, 2, 5, 10, 20, 25, 50, 100] →
    (step ≤ 2 * (f0 % step) → stepFare step f0 + f0 % step = f0 + step) ∧
    (2 * (f0 % step) < step → stepFare step f0 + f0 % step = f0) ∧
    stepFare step f0 % step = 0 ∧
    (∀ n, n % step = 0 → (if f0 ≤ stepFare step f0 then stepFare step f0 - f0 else f0 - stepFare step f0) ≤
      (if f0 ≤ n then n - f0 else f0 - n)) ∧
    (f0 ≤ 50000 → stepFare step f0 ≤ 50000) ∧
    (step = 1 → stepFare step f0 = f0) ∧ stepFare 25 11 = 0 ∧ stepFare 25 13 = 25

/-- Every admission charges no more than its fare and the room under the daily cap, leaves the balance at or above the
overdraft floor, and carries the day total and the writer stamp on its image.  The exit's fare is F2 of its stages and its
charge D1 of D0 and the cap; the entry refuses PASSBACK first, and continues or starts the journey; the exit without an open
trip tries ALREADY_EXITED, NO_ENTRY and the penalty in this order; the emergency exit closes an open trip for nothing, or
refuses NO_ENTRY, or INSUFFICIENT below the floor. -/
def Obligations.AdmissionsRespectCapAndFloor : Prop :=
  (∀ (c : FareCase) (d : Decision),
    entryDecision c = .accept d ∨ exitDecision c = .accept d ∨ emergencyExitDecision c = .accept d →
    d.charge ≤ d.fare ∧ d.image.balance = c.image.balance - d.charge ∧
    -(c.table.overdraft : Int) ≤ d.image.balance ∧
    (0 < c.cap → c.dayTotal + d.charge ≤ max c.dayTotal c.cap) ∧ (0 < c.cap → c.cap ≤ c.dayTotal → d.charge = 0) ∧
    d.image.serviceDay = c.day ∧ d.image.dayTotal = min (c.dayTotal + d.charge) 65535 ∧
    d.image.format = 1 ∧ d.image.writer = { station := c.here.station, gate := c.here.gate, minute := c.now } ∧
    (d.direction = .inbound → d.image.trip = 1 ∧ d.kind = .entry) ∧
    (d.direction = .outbound → d.image.trip = 2 ∧ d.image.lastExitStation = c.here.station ∧
      d.image.lastExitMinute = c.now ∧ (d.kind = .exit ∨ d.kind = .penalty ∨ d.kind = .emergencyExit)) ∧
    (c.image.passPresent = 0 →
      d.image.passLow = 0 ∧ d.image.passHigh = 0 ∧ d.image.passFirst = 0 ∧ d.image.passLast = 0)) ∧
  ∀ c : FareCase,
    let i := c.image
    let t := c.table
    let pct := t.classPercent.getD c.cls 0
    let cap := t.cap.getD c.cls 0
    let total := if i.serviceDay = c.day then i.dayTotal else 0
    let capped := fun (d0 : Nat) => if cap = 0 then d0 else if cap ≤ total then 0 else min d0 (cap - total)
    let nominal := fun (base band : Nat) => stepFare t.step ((base * band * pct + 5000) / 10000)
    let dearest := fun (zone : Nat) => ((List.range 16).map fun e => t.fareMatrix.getD (16 * zone + e) 0).foldl max 0
    let floor : Int := -(t.overdraft : Int)
    -- the exit of an open trip: F2, D0, D1 and the balance
    (i.trip = 1 →
      let free := c.passCovers i.journeyZone && c.passCovers c.here.zone
      let duration := c.now - i.journeyStart
      let f1 := nominal (t.fareMatrix.getD (16 * i.journeyZone + c.here.zone) 0) (t.bandPercent.getD i.band 0)
      let f2 :=
        if t.tripExpiry < c.now - i.entryMinute then (if free then 0 else nominal (dearest i.journeyZone) 100)
        else if i.journeyStation = c.here.station ∧ i.continuations = 0 ∧ duration ≤ t.sameStationGrace then 0
        else if free then 0
        else if t.overstayLimit < duration then f1 + t.overstaySurcharge else f1
      let d1 := capped (f2 - i.journeyCharged)
      (i.balance - d1 < floor → exitDecision c = .refuse .insufficient f2 d1 total) ∧
      (floor ≤ i.balance - d1 → ∃ d, exitDecision c = .accept d ∧ d.kind = .exit ∧ d.fare = f2 ∧ d.charge = d1 ∧
        d.image.journeyCharged = min (i.journeyCharged + d1) 65535)) ∧
    -- the exit without an open trip
    (i.trip ≠ 1 →
      let again := i.lastExitStation = c.here.station ∧ t.passbackInterval ≠ 0 ∧ c.now - i.lastExitMinute < t.passbackInterval
      let d1 := capped t.penalty
      (again → exitDecision c = .refuse .alreadyExited 0 0 total) ∧
      (¬ again → t.penalty = 0 → exitDecision c = .refuse .noEntry 0 0 total) ∧
      (¬ again → t.penalty ≠ 0 → i.balance - d1 < floor → exitDecision c = .refuse .insufficient t.penalty d1 total) ∧
      (¬ again → t.penalty ≠ 0 → floor ≤ i.balance - d1 → ∃ d, exitDecision c = .accept d ∧ d.kind = .penalty ∧
        d.fare = t.penalty ∧ d.charge = d1)) ∧
    -- the emergency exit
    (i.trip ≠ 1 → emergencyExitDecision c = .refuse .noEntry 0 0 total) ∧
    (i.trip = 1 → i.balance < floor → emergencyExitDecision c = .refuse .insufficient 0 0 total) ∧
    (i.trip = 1 → floor ≤ i.balance → ∃ d, emergencyExitDecision c = .accept d ∧ d.kind = .emergencyExit ∧ d.fare = 0 ∧
      d.charge = 0 ∧ d.image.balance = i.balance ∧ d.image.journeyCharged = i.journeyCharged) ∧
    -- the entry
    let back := i.trip = 1 ∧ i.originStation = c.here.station ∧ t.passbackInterval ≠ 0 ∧
      c.now - i.entryMinute < t.passbackInterval
    let onward := i.trip = 2 ∧ i.lastExitStation ≠ c.here.station ∧ c.now - i.lastExitMinute ≤ t.continuationWindow ∧
      i.continuations < t.maxContinuations
    let f0 := if i.trip = 1 then nominal (dearest i.journeyZone) 100 else 0
    let d1 := if i.trip = 1 then capped f0 else 0
    let left : Int := i.balance - d1
    let poor := left < floor ∨ (left < (t.entryMinimum : Int) ∧ c.passCovers c.here.zone = false)
    (back → entryDecision c = .refuse .passback 0 0 total) ∧
    (¬ back → poor → entryDecision c = .refuse .insufficient f0 d1 total) ∧
    (¬ back → ¬ poor → ∃ d, entryDecision c = .accept d ∧ d.unclosed = decide (i.trip = 1) ∧ d.fare = f0 ∧ d.charge = d1 ∧
      d.image.originStation = c.here.station ∧ d.image.originZone = c.here.zone ∧ d.image.entryMinute = c.now ∧
      (onward → d.image.continuations = i.continuations + 1 ∧ d.image.journeyStation = i.journeyStation ∧
        d.image.journeyStart = i.journeyStart ∧ d.image.journeyCharged = i.journeyCharged ∧ d.image.band = i.band) ∧
      (¬ onward → d.image.continuations = 0 ∧ d.image.journeyStation = c.here.station ∧
        d.image.journeyZone = c.here.zone ∧ d.image.journeyStart = c.now ∧ d.image.journeyCharged = 0 ∧
        d.image.band = bandFor t.schedule c.now))

/-- Screening: a pass or CLONE_DETECTED with its criterion, by the counter and the stamp. -/
def Obligations.ScreeningComparesCounterAndStamp : Prop :=
  (∀ (c : Nat) (w : Stamp), screen none c w = none) ∧
  ∀ (e : Sighting) (c : Nat) (w : Stamp),
    (e.counter < c → screen (some e) c w = none) ∧
    (c = e.counter → w.station = e.stamp.station → w.gate = e.stamp.gate → w.minute = e.stamp.minute →
      screen (some e) c w = none) ∧
    (c = e.counter → w.station ≠ e.stamp.station ∨ w.gate ≠ e.stamp.gate ∨ w.minute ≠ e.stamp.minute →
      screen (some e) c w = some .diverged) ∧
    (c < e.counter → screen (some e) c w = some .regression)

/-- An image whose fields fit their widths is read back field by field from the bytes that WRITE sends, and passes the
check of R5 when its fields lie in their values.
Which values the fields of an unused kind may hold is the model's choice, log entry 15. -/
def Obligations.CardImageRoundTrip : Prop :=
  ∀ i : CardImage, imageInRange i = true → i.format ≤ 255 → i.journeyCharged ≤ 65535 → i.serviceDay ≤ 65535 →
    i.dayTotal ≤ 65535 → i.passFirst ≤ 65535 → i.passLast ≤ 65535 →
    (encodeImage i).length = 50 ∧ decodeImage (encodeImage i) = i ∧
    (i.format = 1 → imageConsistent i = true → imageGood (encodeImage i) = true)
end

