-- ==== Sys2Proof/Laws/Bytes.lean ====
section
/-! SUPPORT. Fields of lists of bytes: a number is read back from its bytes, and a field is taken from the part of a list
that holds it; the check of an image and the fields of a complete record. -/

namespace Sys2Proof.Machine

theorem leBytes_length (k n : Nat) : (leBytes k n).length = k := by
  induction k generalizing n with
  | zero => rfl
  | succ k ih => simp [leBytes, ih]

/-- A number that fits its bytes is read back from them. -/
theorem leNat_leBytes (k n : Nat) (h : n < 256 ^ k) : leNat (leBytes k n) = n := by
  induction k generalizing n with
  | zero => simp only [Nat.pow_zero] at h; simp only [leBytes, leNat]; omega
  | succ k ih =>
    have : n / 256 < 256 ^ k := by rw [Nat.div_lt_iff_lt_mul (by decide)]; rwa [Nat.pow_succ] at h
    simp only [leBytes, leNat, ih _ this, BitVec.toNat_ofNat]
    omega

/-- What a list of bytes holds is below the limit of its length. -/
theorem leNat_lt (bs : List Byte) : leNat bs < 256 ^ bs.length := by
  induction bs with
  | nil => decide
  | cons b bs ih => have := b.isLt; simp only [leNat, List.length_cons, Nat.pow_succ]; omega

/-- The middle of three lists is the slice at its place. -/
theorem slice_mid (h c t : List Byte) (o n : Nat) (ho : o = h.length) (hn : n = c.length) : slice (h ++ c ++ t) o n = c := by
  subst ho hn
  refine List.ext_getElem (by simp [slice]) fun i h1 h2 => ?_
  simp only [slice, List.getElem_map, List.getElem_range]
  rw [List.append_assoc, List.getD_eq_getElem?_getD, List.getElem?_append_right (by omega), List.getElem?_append_left (by omega)]
  simp [h2]

/-- A slice beside four replaced bytes. -/
theorem field_beside (h c c' t : List Byte) (o n : Nat) (hc : c.length = c'.length)
    (ho : o + n ≤ h.length ∨ h.length + c.length ≤ o) : field (h ++ c ++ t) o n = field (h ++ c' ++ t) o n := by
  unfold field slice
  congr 1
  refine List.map_congr_left fun i hi => ?_
  have hi : i < n := List.mem_range.1 hi
  simp only [List.getD_eq_getElem?_getD, List.append_assoc]
  rcases ho with ho | ho
  · rw [List.getElem?_append_left (by omega), List.getElem?_append_left (by omega)]
  · rw [List.getElem?_append_right (by omega), List.getElem?_append_right (by omega), List.getElem?_append_right (by omega),
      List.getElem?_append_right (by omega), hc]

/-- A field before the end of a list's first part. -/
theorem field_before (h t : List Byte) (o n : Nat) (ho : o + n ≤ h.length) : field (h ++ t) o n = field h o n := by
  unfold field slice
  congr 1
  refine List.map_congr_left fun i hi => ?_
  have hi : i < n := List.mem_range.1 hi
  rw [List.getD_eq_getElem?_getD, List.getD_eq_getElem?_getD, List.getElem?_append_left (by omega)]

/-- A field that zeros hold. -/
theorem field_zeros (h : List Byte) (m o n : Nat) (ho : h.length ≤ o) : field (h ++ List.replicate m 0#8) o n = 0 := by
  have : slice (h ++ List.replicate m 0#8) o n = List.replicate n 0#8 := by
    refine List.ext_getElem (by simp [slice]) fun i h1 h2 => ?_
    simp only [slice, List.getElem_map, List.getElem_range, List.getElem_replicate, List.getD_eq_getElem?_getD]
    rw [List.getElem?_append_right (by omega), List.getElem?_replicate]
    split <;> rfl
  rw [field, this]
  clear this
  induction n with
  | zero => rfl
  | succ n ih => simp [List.replicate_succ, leNat, ih]

/-! ## Images and complete records (R178, R180) -/

/-- An image whose check is made over its other bytes has a matching check. -/
theorem image_check_matches (start rest : List Byte) (hs : start.length = 8) (hr : rest.length = 1012) :
    imageCheckMatches (start ++ leBytes 4 (crc32 (start ++ List.replicate 4 0#8 ++ rest)) ++ rest) = true := by
  have hl := leBytes_length 4 (crc32 (start ++ List.replicate 4 0#8 ++ rest))
  have h0 := slice_mid [] start (leBytes 4 (crc32 (start ++ List.replicate 4 0#8 ++ rest)) ++ rest) 0 8 rfl hs.symm
  have h1 := slice_mid start (leBytes 4 (crc32 (start ++ List.replicate 4 0#8 ++ rest))) rest 8 4 hs.symm hl.symm
  have h2 := slice_mid (start ++ leBytes 4 (crc32 (start ++ List.replicate 4 0#8 ++ rest))) rest [] 12 1012
    (by rw [List.length_append, hs, hl]) hr.symm
  rw [List.nil_append, ← List.append_assoc] at h0
  rw [List.append_nil] at h2
  rw [imageCheckMatches, imageCrc, field, h0, h1, h2, leNat_leBytes _ _ (BitVec.isLt _), beq_self_eq_true]

theorem completeRecord_length (a b : Nat) : (completeRecord a b).length = 10 := by
  simp only [completeRecord, withCrc16, List.length_append, leBytes_length]

/-- A complete record is valid and holds the version and the check that it was made of. -/
theorem completeRecord_fields (a b : Nat) (ha : a < 256 ^ 4) (hb : b < 256 ^ 4) :
    crc16Holds (completeRecord a b) 8 = true ∧ field (completeRecord a b) 4 4 = b ∧ field (completeRecord a b) 0 4 = a := by
  have la := leBytes_length 4 a
  have lb := leBytes_length 4 b
  have lc := leBytes_length 2 (crc16 (leBytes 4 a ++ leBytes 4 b))
  have h1 := slice_mid [] (leBytes 4 a) (leBytes 4 b ++ leBytes 2 (crc16 (leBytes 4 a ++ leBytes 4 b))) 0 4 rfl la.symm
  have h2 := slice_mid (leBytes 4 a) (leBytes 4 b) (leBytes 2 (crc16 (leBytes 4 a ++ leBytes 4 b))) 4 4 la.symm lb.symm
  have h3 := slice_mid (leBytes 4 a ++ leBytes 4 b) (leBytes 2 (crc16 (leBytes 4 a ++ leBytes 4 b))) [] 8 2
    (by rw [List.length_append, la, lb]) lc.symm
  have h4 := slice_mid [] (leBytes 4 a ++ leBytes 4 b) (leBytes 2 (crc16 (leBytes 4 a ++ leBytes 4 b))) 0 8 rfl
    (by rw [List.length_append, la, lb])
  rw [List.append_nil] at h3
  rw [List.nil_append, ← List.append_assoc] at h1
  rw [List.nil_append] at h4
  unfold crc16Holds completeRecord withCrc16 field
  rw [h1, h2, h3, h4, leNat_leBytes _ _ ha, leNat_leBytes _ _ hb, leNat_leBytes _ _ (BitVec.isLt _)]
  exact ⟨beq_self_eq_true _, rfl, rfl⟩

end Sys2Proof.Machine
end

