-- ==== Sys2Proof/Laws/State.lean ====
section
/-! SUPPORT. What each plain update of the state leaves as it was: one fact per field, each true by definition.

A conjunction tagged `simp` gives one rewriting rule per field. -/

namespace Sys2Proof.Machine

variable (s : State)

/-- `reach` writes `now` only. -/
@[simp] theorem State.reach_keeps (d : Nat) :
    (s.reach d).free = s.free ∧ (s.reach d).phase = s.phase ∧ (s.reach d).scanStep = s.scanStep ∧
    (s.reach d).scanWork = s.scanWork ∧ (s.reach d).supplyWarning = s.supplyWarning ∧ (s.reach d).clock = s.clock ∧
    (s.reach d).link = s.link ∧ (s.reach d).cards = s.cards ∧ (s.reach d).check = s.check ∧
    (s.reach d).recovery = s.recovery ∧ (s.reach d).fare = s.fare ∧ (s.reach d).aisle = s.aisle ∧
    (s.reach d).drive = s.drive ∧ (s.reach d).journal = s.journal ∧ (s.reach d).store = s.store ∧
    (s.reach d).station = s.station ∧ (s.reach d).loader = s.loader ∧ (s.reach d).settings = s.settings ∧
    (s.reach d).pending = s.pending := by
  and_intros <;> rfl

/-- `idle` writes `now` only. -/
@[simp] theorem State.idle_keeps :
    (s.idle).free = s.free ∧ (s.idle).phase = s.phase ∧ (s.idle).scanStep = s.scanStep ∧
    (s.idle).scanWork = s.scanWork ∧ (s.idle).supplyWarning = s.supplyWarning ∧ (s.idle).clock = s.clock ∧
    (s.idle).link = s.link ∧ (s.idle).cards = s.cards ∧ (s.idle).check = s.check ∧ (s.idle).recovery = s.recovery ∧
    (s.idle).fare = s.fare ∧ (s.idle).aisle = s.aisle ∧ (s.idle).drive = s.drive ∧ (s.idle).journal = s.journal ∧
    (s.idle).store = s.store ∧ (s.idle).station = s.station ∧ (s.idle).loader = s.loader ∧
    (s.idle).settings = s.settings ∧ (s.idle).pending = s.pending := by
  and_intros <;> rfl

/-- `raise` writes `link` only. -/
@[simp] theorem State.raise_keeps (k : EventKind) :
    (s.raise k).now = s.now ∧ (s.raise k).free = s.free ∧ (s.raise k).phase = s.phase ∧
    (s.raise k).scanStep = s.scanStep ∧ (s.raise k).scanWork = s.scanWork ∧
    (s.raise k).supplyWarning = s.supplyWarning ∧ (s.raise k).clock = s.clock ∧ (s.raise k).cards = s.cards ∧
    (s.raise k).check = s.check ∧ (s.raise k).recovery = s.recovery ∧ (s.raise k).fare = s.fare ∧
    (s.raise k).aisle = s.aisle ∧ (s.raise k).drive = s.drive ∧ (s.raise k).journal = s.journal ∧
    (s.raise k).store = s.store ∧ (s.raise k).station = s.station ∧ (s.raise k).loader = s.loader ∧
    (s.raise k).settings = s.settings ∧ (s.raise k).pending = s.pending := by
  and_intros <;> rfl

/-- `notify` writes `link` only. -/
@[simp] theorem State.notify_keeps (b : Nat) (m : OutMessage) :
    (s.notify b m).now = s.now ∧ (s.notify b m).free = s.free ∧ (s.notify b m).phase = s.phase ∧
    (s.notify b m).scanStep = s.scanStep ∧ (s.notify b m).scanWork = s.scanWork ∧
    (s.notify b m).supplyWarning = s.supplyWarning ∧ (s.notify b m).clock = s.clock ∧
    (s.notify b m).cards = s.cards ∧ (s.notify b m).check = s.check ∧ (s.notify b m).recovery = s.recovery ∧
    (s.notify b m).fare = s.fare ∧ (s.notify b m).aisle = s.aisle ∧ (s.notify b m).drive = s.drive ∧
    (s.notify b m).journal = s.journal ∧ (s.notify b m).store = s.store ∧ (s.notify b m).station = s.station ∧
    (s.notify b m).loader = s.loader ∧ (s.notify b m).settings = s.settings ∧ (s.notify b m).pending = s.pending := by
  and_intros <;> rfl

/-- `reply` writes `link` only. -/
@[simp] theorem State.reply_keeps (k : Byte) (st : Status) (d : ReplyData) :
    (s.reply k st d).now = s.now ∧ (s.reply k st d).free = s.free ∧ (s.reply k st d).phase = s.phase ∧
    (s.reply k st d).scanStep = s.scanStep ∧ (s.reply k st d).scanWork = s.scanWork ∧
    (s.reply k st d).supplyWarning = s.supplyWarning ∧ (s.reply k st d).clock = s.clock ∧
    (s.reply k st d).cards = s.cards ∧ (s.reply k st d).check = s.check ∧ (s.reply k st d).recovery = s.recovery ∧
    (s.reply k st d).fare = s.fare ∧ (s.reply k st d).aisle = s.aisle ∧ (s.reply k st d).drive = s.drive ∧
    (s.reply k st d).journal = s.journal ∧ (s.reply k st d).store = s.store ∧ (s.reply k st d).station = s.station ∧
    (s.reply k st d).loader = s.loader ∧ (s.reply k st d).settings = s.settings ∧
    (s.reply k st d).pending = s.pending := by
  and_intros <;> rfl

/-- `answer` writes `link` only. -/
@[simp] theorem State.answer_keeps (k : Byte) (st : Status) :
    (s.answer k st).now = s.now ∧ (s.answer k st).free = s.free ∧ (s.answer k st).phase = s.phase ∧
    (s.answer k st).scanStep = s.scanStep ∧ (s.answer k st).scanWork = s.scanWork ∧
    (s.answer k st).supplyWarning = s.supplyWarning ∧ (s.answer k st).clock = s.clock ∧
    (s.answer k st).cards = s.cards ∧ (s.answer k st).check = s.check ∧ (s.answer k st).recovery = s.recovery ∧
    (s.answer k st).fare = s.fare ∧ (s.answer k st).aisle = s.aisle ∧ (s.answer k st).drive = s.drive ∧
    (s.answer k st).journal = s.journal ∧ (s.answer k st).store = s.store ∧ (s.answer k st).station = s.station ∧
    (s.answer k st).loader = s.loader ∧ (s.answer k st).settings = s.settings ∧
    (s.answer k st).pending = s.pending := by
  and_intros <;> rfl

/-- `dropFrame` writes `link` only. -/
@[simp] theorem State.dropFrame_keeps :
    (s.dropFrame).now = s.now ∧ (s.dropFrame).free = s.free ∧ (s.dropFrame).phase = s.phase ∧
    (s.dropFrame).scanStep = s.scanStep ∧ (s.dropFrame).scanWork = s.scanWork ∧
    (s.dropFrame).supplyWarning = s.supplyWarning ∧ (s.dropFrame).clock = s.clock ∧ (s.dropFrame).cards = s.cards ∧
    (s.dropFrame).check = s.check ∧ (s.dropFrame).recovery = s.recovery ∧ (s.dropFrame).fare = s.fare ∧
    (s.dropFrame).aisle = s.aisle ∧ (s.dropFrame).drive = s.drive ∧ (s.dropFrame).journal = s.journal ∧
    (s.dropFrame).store = s.store ∧ (s.dropFrame).station = s.station ∧ (s.dropFrame).loader = s.loader ∧
    (s.dropFrame).settings = s.settings ∧ (s.dropFrame).pending = s.pending := by
  and_intros <;> rfl

/-- `takeByte` writes `link` only. -/
@[simp] theorem State.takeByte_keeps (b : Byte) :
    (s.takeByte b).now = s.now ∧ (s.takeByte b).free = s.free ∧ (s.takeByte b).phase = s.phase ∧
    (s.takeByte b).scanStep = s.scanStep ∧ (s.takeByte b).scanWork = s.scanWork ∧
    (s.takeByte b).supplyWarning = s.supplyWarning ∧ (s.takeByte b).clock = s.clock ∧
    (s.takeByte b).cards = s.cards ∧ (s.takeByte b).check = s.check ∧ (s.takeByte b).recovery = s.recovery ∧
    (s.takeByte b).fare = s.fare ∧ (s.takeByte b).aisle = s.aisle ∧ (s.takeByte b).drive = s.drive ∧
    (s.takeByte b).journal = s.journal ∧ (s.takeByte b).store = s.store ∧ (s.takeByte b).station = s.station ∧
    (s.takeByte b).loader = s.loader ∧ (s.takeByte b).settings = s.settings ∧ (s.takeByte b).pending = s.pending := by
  and_intros <;> rfl

/-- `onSession` writes `cards` only. -/
@[simp] theorem State.onSession_keeps (r : Reader) (f : Session → Session) :
    (s.onSession r f).now = s.now ∧ (s.onSession r f).free = s.free ∧ (s.onSession r f).phase = s.phase ∧
    (s.onSession r f).scanStep = s.scanStep ∧ (s.onSession r f).scanWork = s.scanWork ∧
    (s.onSession r f).supplyWarning = s.supplyWarning ∧ (s.onSession r f).clock = s.clock ∧
    (s.onSession r f).link = s.link ∧ (s.onSession r f).check = s.check ∧ (s.onSession r f).recovery = s.recovery ∧
    (s.onSession r f).fare = s.fare ∧ (s.onSession r f).aisle = s.aisle ∧ (s.onSession r f).drive = s.drive ∧
    (s.onSession r f).journal = s.journal ∧ (s.onSession r f).store = s.store ∧
    (s.onSession r f).station = s.station ∧ (s.onSession r f).loader = s.loader ∧
    (s.onSession r f).settings = s.settings ∧ (s.onSession r f).pending = s.pending := by
  and_intros <;> rfl

/-- What `onSession` writes. -/
@[simp] theorem State.onSession_session (r : Reader) (f : Session → Session) :
    (s.onSession r f).session r = f (s.session r) := by
  cases r <;> rfl

/-- `send` writes `cards` only. -/
@[simp] theorem State.send_keeps (r : Reader) (e : Exchange) :
    (s.send r e).now = s.now ∧ (s.send r e).free = s.free ∧ (s.send r e).phase = s.phase ∧
    (s.send r e).scanStep = s.scanStep ∧ (s.send r e).scanWork = s.scanWork ∧
    (s.send r e).supplyWarning = s.supplyWarning ∧ (s.send r e).clock = s.clock ∧ (s.send r e).link = s.link ∧
    (s.send r e).check = s.check ∧ (s.send r e).recovery = s.recovery ∧ (s.send r e).fare = s.fare ∧
    (s.send r e).aisle = s.aisle ∧ (s.send r e).drive = s.drive ∧ (s.send r e).journal = s.journal ∧
    (s.send r e).store = s.store ∧ (s.send r e).station = s.station ∧ (s.send r e).loader = s.loader ∧
    (s.send r e).settings = s.settings ∧ (s.send r e).pending = s.pending := by
  and_intros <;> rfl

/-- `followReaders` writes `cards` only. -/
@[simp] theorem State.followReaders_keeps :
    (s.followReaders).now = s.now ∧ (s.followReaders).free = s.free ∧ (s.followReaders).phase = s.phase ∧
    (s.followReaders).scanStep = s.scanStep ∧ (s.followReaders).scanWork = s.scanWork ∧
    (s.followReaders).supplyWarning = s.supplyWarning ∧ (s.followReaders).clock = s.clock ∧
    (s.followReaders).link = s.link ∧ (s.followReaders).check = s.check ∧ (s.followReaders).recovery = s.recovery ∧
    (s.followReaders).fare = s.fare ∧ (s.followReaders).aisle = s.aisle ∧ (s.followReaders).drive = s.drive ∧
    (s.followReaders).journal = s.journal ∧ (s.followReaders).store = s.store ∧
    (s.followReaders).station = s.station ∧ (s.followReaders).loader = s.loader ∧
    (s.followReaders).settings = s.settings ∧ (s.followReaders).pending = s.pending := by
  and_intros <;> rfl

/-- `setSightings` writes `check` only. -/
@[simp] theorem State.setSightings_keeps (xs : List Sighting) :
    (s.setSightings xs).now = s.now ∧ (s.setSightings xs).free = s.free ∧ (s.setSightings xs).phase = s.phase ∧
    (s.setSightings xs).scanStep = s.scanStep ∧ (s.setSightings xs).scanWork = s.scanWork ∧
    (s.setSightings xs).supplyWarning = s.supplyWarning ∧ (s.setSightings xs).clock = s.clock ∧
    (s.setSightings xs).link = s.link ∧ (s.setSightings xs).cards = s.cards ∧
    (s.setSightings xs).recovery = s.recovery ∧ (s.setSightings xs).fare = s.fare ∧
    (s.setSightings xs).aisle = s.aisle ∧ (s.setSightings xs).drive = s.drive ∧
    (s.setSightings xs).journal = s.journal ∧ (s.setSightings xs).store = s.store ∧
    (s.setSightings xs).station = s.station ∧ (s.setSightings xs).loader = s.loader ∧
    (s.setSightings xs).settings = s.settings ∧ (s.setSightings xs).pending = s.pending := by
  and_intros <;> rfl

/-- `Journal.testHeld` writes `staging` only, entry by entry. -/
@[simp] theorem Journal.testHeld_keeps (p : RecoveryEntry → Bool) (j : Journal) :
    (j.testHeld p).staging.length = j.staging.length ∧ (j.testHeld p).reservations = j.reservations ∧
    (j.testHeld p).waiting = j.waiting ∧ (j.testHeld p).nextSeq = j.nextSeq ∧
    (j.testHeld p).newestAssigned = j.newestAssigned ∧ (j.testHeld p).newestProgrammed = j.newestProgrammed ∧
    (j.testHeld p).floor = j.floor ∧ (j.testHeld p).sectors = j.sectors ∧ (j.testHeld p).writePos = j.writePos ∧
    (j.testHeld p).positions = j.positions ∧ (j.testHeld p).eraseWork = j.eraseWork := by
  simp [Journal.testHeld]

/-- A staging entry changes only in the Recovery List entry held with it, and asks for the same operation. -/
@[simp] theorem StagingEntry.testHeld_action (p : RecoveryEntry → Bool) (e : StagingEntry) :
    (e.testHeld p).action = e.action := by
  cases e <;> rfl

/-- What a lifetime test leaves of the Recovery List, and of the entries held with their marks. -/
@[simp] theorem State.testLifetimes_recovery : (s.testLifetimes).recovery = s.recovery.filter s.withinLifetime := rfl
@[simp] theorem State.testLifetimes_journal : (s.testLifetimes).journal = s.journal.testHeld s.withinLifetime := rfl

/-- `testLifetimes` writes `recovery` and `journal` only. -/
@[simp] theorem State.testLifetimes_keeps :
    (s.testLifetimes).now = s.now ∧ (s.testLifetimes).free = s.free ∧ (s.testLifetimes).phase = s.phase ∧
    (s.testLifetimes).scanStep = s.scanStep ∧ (s.testLifetimes).scanWork = s.scanWork ∧
    (s.testLifetimes).supplyWarning = s.supplyWarning ∧ (s.testLifetimes).clock = s.clock ∧
    (s.testLifetimes).link = s.link ∧ (s.testLifetimes).cards = s.cards ∧ (s.testLifetimes).check = s.check ∧
    (s.testLifetimes).fare = s.fare ∧ (s.testLifetimes).aisle = s.aisle ∧ (s.testLifetimes).drive = s.drive ∧
    (s.testLifetimes).store = s.store ∧
    (s.testLifetimes).station = s.station ∧ (s.testLifetimes).loader = s.loader ∧
    (s.testLifetimes).settings = s.settings ∧ (s.testLifetimes).pending = s.pending := by
  and_intros <;> rfl

/-- `forgetErased` writes `recovery` only. -/
@[simp] theorem State.forgetErased_keeps (xs : List Nat) :
    (s.forgetErased xs).now = s.now ∧ (s.forgetErased xs).free = s.free ∧ (s.forgetErased xs).phase = s.phase ∧
    (s.forgetErased xs).scanStep = s.scanStep ∧ (s.forgetErased xs).scanWork = s.scanWork ∧
    (s.forgetErased xs).supplyWarning = s.supplyWarning ∧ (s.forgetErased xs).clock = s.clock ∧
    (s.forgetErased xs).link = s.link ∧ (s.forgetErased xs).cards = s.cards ∧ (s.forgetErased xs).check = s.check ∧
    (s.forgetErased xs).fare = s.fare ∧ (s.forgetErased xs).aisle = s.aisle ∧ (s.forgetErased xs).drive = s.drive ∧
    (s.forgetErased xs).journal = s.journal ∧ (s.forgetErased xs).store = s.store ∧
    (s.forgetErased xs).station = s.station ∧ (s.forgetErased xs).loader = s.loader ∧
    (s.forgetErased xs).settings = s.settings ∧ (s.forgetErased xs).pending = s.pending := by
  and_intros <;> rfl

/-- `dropRecovery` writes `recovery` only. -/
@[simp] theorem State.dropRecovery_keeps (n : Nat) :
    (s.dropRecovery n).now = s.now ∧ (s.dropRecovery n).free = s.free ∧ (s.dropRecovery n).phase = s.phase ∧
    (s.dropRecovery n).scanStep = s.scanStep ∧ (s.dropRecovery n).scanWork = s.scanWork ∧
    (s.dropRecovery n).supplyWarning = s.supplyWarning ∧ (s.dropRecovery n).clock = s.clock ∧
    (s.dropRecovery n).link = s.link ∧ (s.dropRecovery n).cards = s.cards ∧ (s.dropRecovery n).check = s.check ∧
    (s.dropRecovery n).fare = s.fare ∧ (s.dropRecovery n).aisle = s.aisle ∧ (s.dropRecovery n).drive = s.drive ∧
    (s.dropRecovery n).journal = s.journal ∧ (s.dropRecovery n).store = s.store ∧
    (s.dropRecovery n).station = s.station ∧ (s.dropRecovery n).loader = s.loader ∧
    (s.dropRecovery n).settings = s.settings ∧ (s.dropRecovery n).pending = s.pending := by
  and_intros <;> rfl

/-- `setClock` writes `clock`, `recovery` and the entries held in `journal` only. -/
@[simp] theorem State.setClock_keeps (n : Nat) (v : Bool) :
    (s.setClock n v).now = s.now ∧ (s.setClock n v).free = s.free ∧ (s.setClock n v).phase = s.phase ∧
    (s.setClock n v).scanStep = s.scanStep ∧ (s.setClock n v).scanWork = s.scanWork ∧
    (s.setClock n v).supplyWarning = s.supplyWarning ∧ (s.setClock n v).link = s.link ∧
    (s.setClock n v).cards = s.cards ∧ (s.setClock n v).check = s.check ∧ (s.setClock n v).fare = s.fare ∧
    (s.setClock n v).aisle = s.aisle ∧ (s.setClock n v).drive = s.drive ∧
    (s.setClock n v).journal.staging.length = s.journal.staging.length ∧
    (s.setClock n v).journal.positions = s.journal.positions ∧
    (s.setClock n v).store = s.store ∧ (s.setClock n v).station = s.station ∧ (s.setClock n v).loader = s.loader ∧
    (s.setClock n v).settings = s.settings ∧ (s.setClock n v).pending = s.pending := by
  unfold State.setClock; simp

/-- `loseClock` writes `clock` and `free` only. -/
@[simp] theorem State.loseClock_keeps :
    (s.loseClock).now = s.now ∧ (s.loseClock).phase = s.phase ∧ (s.loseClock).scanStep = s.scanStep ∧
    (s.loseClock).scanWork = s.scanWork ∧ (s.loseClock).supplyWarning = s.supplyWarning ∧
    (s.loseClock).link = s.link ∧ (s.loseClock).cards = s.cards ∧ (s.loseClock).check = s.check ∧
    (s.loseClock).recovery = s.recovery ∧ (s.loseClock).fare = s.fare ∧ (s.loseClock).aisle = s.aisle ∧
    (s.loseClock).drive = s.drive ∧ (s.loseClock).journal = s.journal ∧ (s.loseClock).store = s.store ∧
    (s.loseClock).station = s.station ∧ (s.loseClock).loader = s.loader ∧ (s.loseClock).settings = s.settings ∧
    (s.loseClock).pending = s.pending := by
  and_intros <;> rfl

/-- `joinLine` writes `journal` only. -/
@[simp] theorem State.joinLine_keeps (r : Reader) (i : WaitItem) :
    (s.joinLine r i).now = s.now ∧ (s.joinLine r i).free = s.free ∧ (s.joinLine r i).phase = s.phase ∧
    (s.joinLine r i).scanStep = s.scanStep ∧ (s.joinLine r i).scanWork = s.scanWork ∧
    (s.joinLine r i).supplyWarning = s.supplyWarning ∧ (s.joinLine r i).clock = s.clock ∧
    (s.joinLine r i).link = s.link ∧ (s.joinLine r i).cards = s.cards ∧ (s.joinLine r i).check = s.check ∧
    (s.joinLine r i).recovery = s.recovery ∧ (s.joinLine r i).fare = s.fare ∧ (s.joinLine r i).aisle = s.aisle ∧
    (s.joinLine r i).drive = s.drive ∧ (s.joinLine r i).store = s.store ∧ (s.joinLine r i).station = s.station ∧
    (s.joinLine r i).loader = s.loader ∧ (s.joinLine r i).settings = s.settings ∧
    (s.joinLine r i).pending = s.pending := by
  and_intros <;> rfl

/-- `queueJob` writes `store` only. -/
@[simp] theorem State.queueJob_keeps (k : JobKind) :
    (s.queueJob k).now = s.now ∧ (s.queueJob k).free = s.free ∧ (s.queueJob k).phase = s.phase ∧
    (s.queueJob k).scanStep = s.scanStep ∧ (s.queueJob k).scanWork = s.scanWork ∧
    (s.queueJob k).supplyWarning = s.supplyWarning ∧ (s.queueJob k).clock = s.clock ∧ (s.queueJob k).link = s.link ∧
    (s.queueJob k).cards = s.cards ∧ (s.queueJob k).check = s.check ∧ (s.queueJob k).recovery = s.recovery ∧
    (s.queueJob k).fare = s.fare ∧ (s.queueJob k).aisle = s.aisle ∧ (s.queueJob k).drive = s.drive ∧
    (s.queueJob k).journal = s.journal ∧ (s.queueJob k).station = s.station ∧ (s.queueJob k).loader = s.loader ∧
    (s.queueJob k).settings = s.settings ∧ (s.queueJob k).pending = s.pending := by
  and_intros <;> rfl

/-- `startOp` writes `store` only. -/
@[simp] theorem State.startOp_keeps (a : StoreAction) (o : OpOwner) (n : Option Nat) :
    (s.startOp a o n).now = s.now ∧ (s.startOp a o n).free = s.free ∧ (s.startOp a o n).phase = s.phase ∧
    (s.startOp a o n).scanStep = s.scanStep ∧ (s.startOp a o n).scanWork = s.scanWork ∧
    (s.startOp a o n).supplyWarning = s.supplyWarning ∧ (s.startOp a o n).clock = s.clock ∧
    (s.startOp a o n).link = s.link ∧ (s.startOp a o n).cards = s.cards ∧ (s.startOp a o n).check = s.check ∧
    (s.startOp a o n).recovery = s.recovery ∧ (s.startOp a o n).fare = s.fare ∧ (s.startOp a o n).aisle = s.aisle ∧
    (s.startOp a o n).drive = s.drive ∧ (s.startOp a o n).journal = s.journal ∧
    (s.startOp a o n).station = s.station ∧ (s.startOp a o n).loader = s.loader ∧
    (s.startOp a o n).settings = s.settings ∧ (s.startOp a o n).pending = s.pending := by
  and_intros <;> rfl

/-- `scanProgramDone` writes `scanWork` and `journal` only. -/
@[simp] theorem State.scanProgramDone_keeps (ok : Bool) (n : Option Nat) :
    (s.scanProgramDone ok n).now = s.now ∧ (s.scanProgramDone ok n).free = s.free ∧
    (s.scanProgramDone ok n).phase = s.phase ∧ (s.scanProgramDone ok n).scanStep = s.scanStep ∧
    (s.scanProgramDone ok n).supplyWarning = s.supplyWarning ∧ (s.scanProgramDone ok n).clock = s.clock ∧
    (s.scanProgramDone ok n).link = s.link ∧ (s.scanProgramDone ok n).cards = s.cards ∧
    (s.scanProgramDone ok n).check = s.check ∧ (s.scanProgramDone ok n).recovery = s.recovery ∧
    (s.scanProgramDone ok n).fare = s.fare ∧ (s.scanProgramDone ok n).aisle = s.aisle ∧
    (s.scanProgramDone ok n).drive = s.drive ∧
    (s.scanProgramDone ok n).store = s.store ∧ (s.scanProgramDone ok n).station = s.station ∧
    (s.scanProgramDone ok n).loader = s.loader ∧ (s.scanProgramDone ok n).settings = s.settings ∧
    (s.scanProgramDone ok n).pending = s.pending := by
  unfold State.scanProgramDone; repeat' split
  all_goals and_intros <;> rfl

/-- `loadWindow` writes `aisle` only. -/
@[simp] theorem State.loadWindow_keeps :
    (s.loadWindow).now = s.now ∧ (s.loadWindow).free = s.free ∧ (s.loadWindow).phase = s.phase ∧
    (s.loadWindow).scanStep = s.scanStep ∧ (s.loadWindow).scanWork = s.scanWork ∧
    (s.loadWindow).supplyWarning = s.supplyWarning ∧ (s.loadWindow).clock = s.clock ∧ (s.loadWindow).link = s.link ∧
    (s.loadWindow).cards = s.cards ∧ (s.loadWindow).check = s.check ∧ (s.loadWindow).recovery = s.recovery ∧
    (s.loadWindow).fare = s.fare ∧ (s.loadWindow).drive = s.drive ∧ (s.loadWindow).journal = s.journal ∧
    (s.loadWindow).store = s.store ∧ (s.loadWindow).station = s.station ∧ (s.loadWindow).loader = s.loader ∧
    (s.loadWindow).settings = s.settings ∧ (s.loadWindow).pending = s.pending := by
  and_intros <;> rfl

/-- `syncWindow` writes `aisle` only. -/
@[simp] theorem State.syncWindow_keeps :
    (s.syncWindow).now = s.now ∧ (s.syncWindow).free = s.free ∧ (s.syncWindow).phase = s.phase ∧
    (s.syncWindow).scanStep = s.scanStep ∧ (s.syncWindow).scanWork = s.scanWork ∧
    (s.syncWindow).supplyWarning = s.supplyWarning ∧ (s.syncWindow).clock = s.clock ∧ (s.syncWindow).link = s.link ∧
    (s.syncWindow).cards = s.cards ∧ (s.syncWindow).check = s.check ∧ (s.syncWindow).recovery = s.recovery ∧
    (s.syncWindow).fare = s.fare ∧ (s.syncWindow).drive = s.drive ∧ (s.syncWindow).journal = s.journal ∧
    (s.syncWindow).store = s.store ∧ (s.syncWindow).station = s.station ∧ (s.syncWindow).loader = s.loader ∧
    (s.syncWindow).settings = s.settings ∧ (s.syncWindow).pending = s.pending := by
  and_intros <;> rfl

/-- `numberCredit` writes `aisle` only. -/
@[simp] theorem State.numberCredit_keeps (r : Reader) (n : Nat) :
    (s.numberCredit r n).now = s.now ∧ (s.numberCredit r n).free = s.free ∧ (s.numberCredit r n).phase = s.phase ∧
    (s.numberCredit r n).scanStep = s.scanStep ∧ (s.numberCredit r n).scanWork = s.scanWork ∧
    (s.numberCredit r n).supplyWarning = s.supplyWarning ∧ (s.numberCredit r n).clock = s.clock ∧
    (s.numberCredit r n).link = s.link ∧ (s.numberCredit r n).cards = s.cards ∧
    (s.numberCredit r n).check = s.check ∧ (s.numberCredit r n).recovery = s.recovery ∧
    (s.numberCredit r n).fare = s.fare ∧ (s.numberCredit r n).drive = s.drive ∧
    (s.numberCredit r n).journal = s.journal ∧ (s.numberCredit r n).store = s.store ∧
    (s.numberCredit r n).station = s.station ∧ (s.numberCredit r n).loader = s.loader ∧
    (s.numberCredit r n).settings = s.settings ∧ (s.numberCredit r n).pending = s.pending := by
  and_intros <;> rfl

/-- `removeCredit` writes `aisle` only. -/
@[simp] theorem State.removeCredit_keeps (r : Reader) :
    (s.removeCredit r).now = s.now ∧ (s.removeCredit r).free = s.free ∧ (s.removeCredit r).phase = s.phase ∧
    (s.removeCredit r).scanStep = s.scanStep ∧ (s.removeCredit r).scanWork = s.scanWork ∧
    (s.removeCredit r).supplyWarning = s.supplyWarning ∧ (s.removeCredit r).clock = s.clock ∧
    (s.removeCredit r).link = s.link ∧ (s.removeCredit r).cards = s.cards ∧ (s.removeCredit r).check = s.check ∧
    (s.removeCredit r).recovery = s.recovery ∧ (s.removeCredit r).fare = s.fare ∧
    (s.removeCredit r).drive = s.drive ∧ (s.removeCredit r).journal = s.journal ∧
    (s.removeCredit r).store = s.store ∧ (s.removeCredit r).station = s.station ∧
    (s.removeCredit r).loader = s.loader ∧ (s.removeCredit r).settings = s.settings ∧
    (s.removeCredit r).pending = s.pending := by
  and_intros <;> rfl

/-- `dropOldestActive` writes `aisle` only. -/
@[simp] theorem State.dropOldestActive_keeps :
    (s.dropOldestActive).now = s.now ∧ (s.dropOldestActive).free = s.free ∧ (s.dropOldestActive).phase = s.phase ∧
    (s.dropOldestActive).scanStep = s.scanStep ∧ (s.dropOldestActive).scanWork = s.scanWork ∧
    (s.dropOldestActive).supplyWarning = s.supplyWarning ∧ (s.dropOldestActive).clock = s.clock ∧
    (s.dropOldestActive).link = s.link ∧ (s.dropOldestActive).cards = s.cards ∧
    (s.dropOldestActive).check = s.check ∧ (s.dropOldestActive).recovery = s.recovery ∧
    (s.dropOldestActive).fare = s.fare ∧ (s.dropOldestActive).drive = s.drive ∧
    (s.dropOldestActive).journal = s.journal ∧ (s.dropOldestActive).store = s.store ∧
    (s.dropOldestActive).station = s.station ∧ (s.dropOldestActive).loader = s.loader ∧
    (s.dropOldestActive).settings = s.settings ∧ (s.dropOldestActive).pending = s.pending := by
  and_intros <;> rfl

/-- `measureLead` writes `aisle` only. -/
@[simp] theorem State.measureLead_keeps (t : Option Nat) :
    (s.measureLead t).now = s.now ∧ (s.measureLead t).free = s.free ∧ (s.measureLead t).phase = s.phase ∧
    (s.measureLead t).scanStep = s.scanStep ∧ (s.measureLead t).scanWork = s.scanWork ∧
    (s.measureLead t).supplyWarning = s.supplyWarning ∧ (s.measureLead t).clock = s.clock ∧
    (s.measureLead t).link = s.link ∧ (s.measureLead t).cards = s.cards ∧ (s.measureLead t).check = s.check ∧
    (s.measureLead t).recovery = s.recovery ∧ (s.measureLead t).fare = s.fare ∧ (s.measureLead t).drive = s.drive ∧
    (s.measureLead t).journal = s.journal ∧ (s.measureLead t).store = s.store ∧
    (s.measureLead t).station = s.station ∧ (s.measureLead t).loader = s.loader ∧
    (s.measureLead t).settings = s.settings ∧ (s.measureLead t).pending = s.pending := by
  and_intros <;> rfl

/-- `endPassage` writes `aisle` only. -/
@[simp] theorem State.endPassage_keeps :
    (s.endPassage).now = s.now ∧ (s.endPassage).free = s.free ∧ (s.endPassage).phase = s.phase ∧
    (s.endPassage).scanStep = s.scanStep ∧ (s.endPassage).scanWork = s.scanWork ∧
    (s.endPassage).supplyWarning = s.supplyWarning ∧ (s.endPassage).clock = s.clock ∧ (s.endPassage).link = s.link ∧
    (s.endPassage).cards = s.cards ∧ (s.endPassage).check = s.check ∧ (s.endPassage).recovery = s.recovery ∧
    (s.endPassage).fare = s.fare ∧ (s.endPassage).drive = s.drive ∧ (s.endPassage).journal = s.journal ∧
    (s.endPassage).store = s.store ∧ (s.endPassage).station = s.station ∧ (s.endPassage).loader = s.loader ∧
    (s.endPassage).settings = s.settings ∧ (s.endPassage).pending = s.pending := by
  and_intros <;> rfl

/-- What `reach` writes. -/
@[simp] theorem State.reach_writes (d : Nat) :
    (s.reach d).now = max s.now d := by
  rfl

/-- What `raise` writes. -/
@[simp] theorem State.raise_writes (k : EventKind) :
    (s.raise k).link = s.link.raise k := by
  rfl

/-- What `notify` writes. -/
@[simp] theorem State.notify_writes (b : Nat) (m : OutMessage) :
    (s.notify b m).link = s.link.notify b m := by
  rfl

/-- What `reply` writes. -/
@[simp] theorem State.reply_writes (k : Byte) (st : Status) (d : ReplyData) :
    (s.reply k st d).link = s.link.enqueue (.reply (replyKind k) st d) := by
  rfl

/-- What `answer` writes. -/
@[simp] theorem State.answer_writes (k : Byte) (st : Status) :
    (s.answer k st).link = s.link.enqueue (.reply (replyKind k) st .none) := by
  rfl

/-- What `dropFrame` writes. -/
@[simp] theorem State.dropFrame_writes :
    s.dropFrame.link = { s.link with input := s.link.input.tail } := by
  rfl

/-- What `setSightings` writes. -/
@[simp] theorem State.setSightings_writes (xs : List Sighting) :
    (s.setSightings xs).check = { s.check with sightings := xs } := by
  rfl

/-- What `queueJob` writes. -/
@[simp] theorem State.queueJob_writes (k : JobKind) :
    (s.queueJob k).store = { s.store with jobs := s.store.jobs ++ [{ kind := k, step := 0, running := false }] } := by
  rfl

/-- What `startOp` writes. -/
@[simp] theorem State.startOp_writes (a : StoreAction) (o : OpOwner) (n : Option Nat) :
    (s.startOp a o n).store.memory = s.store.memory ∧ (s.startOp a o n).store.jobs = s.store.jobs ∧
    (s.startOp a o n).store.faultCount = s.store.faultCount := by
  and_intros <;> rfl

/-- What `joinLine` writes. -/
@[simp] theorem State.joinLine_writes (r : Reader) (i : WaitItem) :
    (s.joinLine r i).journal = { s.journal with waiting := s.journal.waiting ++ [{ reader := r, item := i }] } := by
  rfl

/-- What `loadWindow` writes. -/
@[simp] theorem State.loadWindow_writes :
    s.loadWindow.aisle.mode = s.aisle.mode ∧ s.loadWindow.aisle.returnMode = s.aisle.returnMode ∧
    s.loadWindow.aisle.hostEmergency = s.aisle.hostEmergency ∧
    s.loadWindow.aisle.emergencyLine = s.aisle.emergencyLine ∧ s.loadWindow.aisle.direction = s.aisle.direction ∧
    s.loadWindow.aisle.pendingDirection = s.aisle.pendingDirection ∧ s.loadWindow.aisle.beamA = s.aisle.beamA ∧
    s.loadWindow.aisle.beamS = s.aisle.beamS ∧ s.loadWindow.aisle.beamB = s.aisle.beamB ∧
    s.loadWindow.aisle.claim = s.aisle.claim ∧ s.loadWindow.aisle.credits = s.aisle.credits ∧
    s.loadWindow.aisle.phase = s.aisle.phase ∧ s.loadWindow.aisle.target = s.aisle.target ∧
    s.loadWindow.aisle.closeDelay = s.aisle.closeDelay := by
  and_intros <;> rfl

/-- What `syncWindow` writes. -/
@[simp] theorem State.syncWindow_writes :
    s.syncWindow.aisle.mode = s.aisle.mode ∧ s.syncWindow.aisle.returnMode = s.aisle.returnMode ∧
    s.syncWindow.aisle.hostEmergency = s.aisle.hostEmergency ∧
    s.syncWindow.aisle.emergencyLine = s.aisle.emergencyLine ∧ s.syncWindow.aisle.direction = s.aisle.direction ∧
    s.syncWindow.aisle.pendingDirection = s.aisle.pendingDirection ∧ s.syncWindow.aisle.beamA = s.aisle.beamA ∧
    s.syncWindow.aisle.beamS = s.aisle.beamS ∧ s.syncWindow.aisle.beamB = s.aisle.beamB ∧
    s.syncWindow.aisle.claim = s.aisle.claim ∧ s.syncWindow.aisle.credits = s.aisle.credits ∧
    s.syncWindow.aisle.phase = s.aisle.phase ∧ s.syncWindow.aisle.target = s.aisle.target ∧
    s.syncWindow.aisle.closeDelay = s.aisle.closeDelay := by
  and_intros <;> rfl

/-- What `numberCredit` writes. -/
@[simp] theorem State.numberCredit_writes (r : Reader) (n : Nat) :
    (s.numberCredit r n).aisle.mode = s.aisle.mode ∧ (s.numberCredit r n).aisle.returnMode = s.aisle.returnMode ∧
    (s.numberCredit r n).aisle.hostEmergency = s.aisle.hostEmergency ∧
    (s.numberCredit r n).aisle.emergencyLine = s.aisle.emergencyLine ∧
    (s.numberCredit r n).aisle.direction = s.aisle.direction ∧
    (s.numberCredit r n).aisle.pendingDirection = s.aisle.pendingDirection ∧
    (s.numberCredit r n).aisle.beamA = s.aisle.beamA ∧ (s.numberCredit r n).aisle.beamS = s.aisle.beamS ∧
    (s.numberCredit r n).aisle.beamB = s.aisle.beamB ∧ (s.numberCredit r n).aisle.claim = s.aisle.claim ∧
    (s.numberCredit r n).aisle.phase = s.aisle.phase ∧ (s.numberCredit r n).aisle.target = s.aisle.target ∧
    (s.numberCredit r n).aisle.closeDelay = s.aisle.closeDelay := by
  and_intros <;> rfl

/-- What `measureLead` writes. -/
@[simp] theorem State.measureLead_writes (t : Option Nat) :
    (s.measureLead t).aisle.mode = s.aisle.mode ∧ (s.measureLead t).aisle.returnMode = s.aisle.returnMode ∧
    (s.measureLead t).aisle.hostEmergency = s.aisle.hostEmergency ∧
    (s.measureLead t).aisle.emergencyLine = s.aisle.emergencyLine ∧
    (s.measureLead t).aisle.direction = s.aisle.direction ∧
    (s.measureLead t).aisle.pendingDirection = s.aisle.pendingDirection ∧
    (s.measureLead t).aisle.beamA = s.aisle.beamA ∧ (s.measureLead t).aisle.beamS = s.aisle.beamS ∧
    (s.measureLead t).aisle.beamB = s.aisle.beamB ∧ (s.measureLead t).aisle.claim = s.aisle.claim ∧
    (s.measureLead t).aisle.credits = s.aisle.credits ∧ (s.measureLead t).aisle.phase = s.aisle.phase ∧
    (s.measureLead t).aisle.target = s.aisle.target ∧ (s.measureLead t).aisle.closeDelay = s.aisle.closeDelay ∧
    (s.measureLead t).aisle.window = s.aisle.window := by
  and_intros <;> rfl

/-- What `endPassage` writes. -/
@[simp] theorem State.endPassage_writes :
    s.endPassage.aisle.mode = s.aisle.mode ∧ s.endPassage.aisle.returnMode = s.aisle.returnMode ∧
    s.endPassage.aisle.hostEmergency = s.aisle.hostEmergency ∧
    s.endPassage.aisle.emergencyLine = s.aisle.emergencyLine ∧ s.endPassage.aisle.direction = s.aisle.direction ∧
    s.endPassage.aisle.pendingDirection = s.aisle.pendingDirection ∧ s.endPassage.aisle.beamA = s.aisle.beamA ∧
    s.endPassage.aisle.beamS = s.aisle.beamS ∧ s.endPassage.aisle.beamB = s.aisle.beamB ∧
    s.endPassage.aisle.claim = s.aisle.claim ∧ s.endPassage.aisle.credits = s.aisle.credits ∧
    s.endPassage.aisle.phase = s.aisle.phase ∧ s.endPassage.aisle.target = s.aisle.target ∧
    s.endPassage.aisle.closeDelay = s.aisle.closeDelay ∧ s.endPassage.aisle.window = s.aisle.window := by
  and_intros <;> rfl

/-- What `dropOldestActive` writes. -/
@[simp] theorem State.dropOldestActive_writes :
    s.dropOldestActive.aisle.mode = s.aisle.mode ∧ s.dropOldestActive.aisle.returnMode = s.aisle.returnMode ∧
    s.dropOldestActive.aisle.hostEmergency = s.aisle.hostEmergency ∧
    s.dropOldestActive.aisle.emergencyLine = s.aisle.emergencyLine ∧
    s.dropOldestActive.aisle.direction = s.aisle.direction ∧
    s.dropOldestActive.aisle.pendingDirection = s.aisle.pendingDirection ∧
    s.dropOldestActive.aisle.beamA = s.aisle.beamA ∧ s.dropOldestActive.aisle.beamS = s.aisle.beamS ∧
    s.dropOldestActive.aisle.beamB = s.aisle.beamB ∧ s.dropOldestActive.aisle.claim = s.aisle.claim ∧
    s.dropOldestActive.aisle.phase = s.aisle.phase ∧ s.dropOldestActive.aisle.target = s.aisle.target ∧
    s.dropOldestActive.aisle.closeDelay = s.aisle.closeDelay ∧
    s.dropOldestActive.aisle.credits = dropFirst Credit.isActive s.aisle.credits := by
  and_intros <;> rfl

/-- `activateFare` leaves these fields, and the store's memory and operation. -/
@[simp] theorem State.activateFare_keeps :
    (s.activateFare).now = s.now ∧ (s.activateFare).free = s.free ∧ (s.activateFare).phase = s.phase ∧
    (s.activateFare).scanStep = s.scanStep ∧ (s.activateFare).scanWork = s.scanWork ∧
    (s.activateFare).supplyWarning = s.supplyWarning ∧ (s.activateFare).clock = s.clock ∧
    (s.activateFare).check = s.check ∧ (s.activateFare).recovery = s.recovery ∧ (s.activateFare).aisle = s.aisle ∧
    (s.activateFare).drive = s.drive ∧ (s.activateFare).journal = s.journal ∧ (s.activateFare).station = s.station ∧
    (s.activateFare).settings = s.settings ∧ (s.activateFare).pending = s.pending ∧
    (s.activateFare).store.memory = s.store.memory ∧ (s.activateFare).store.op = s.store.op := by
  unfold State.activateFare
  by_cases h : s.fare.isNone <;> simp [h]

/-- What `activateFare` writes. -/
@[simp] theorem State.activateFare_writes :
    s.activateFare.fare = some (tableOf s.loader.staged.image) ∧
    s.activateFare.loader = { s.loader with staged := .empty, activeBank := some s.loader.stagingBank,
                                            stagingBank := s.loader.stagingBank.other, markPending := true } ∧
    s.activateFare.link = s.link.raise .tableActivated ∧
    s.activateFare.store.jobs = s.store.jobs ++
      [{ kind := .fareMark s.loader.stagingBank (tableOf s.loader.staged.image).version, step := 0, running := false }] := by
  unfold State.activateFare
  by_cases h : s.fare.isNone <;> simp [h]

/-- `testDue` activates a table that falls due in service, and else does nothing. -/
theorem State.testDue_cases :
    (s.phase = .running ∧ s.fareDue = true ∧ s.testDue = s.activateFare) ∨
    (¬ (s.phase = .running ∧ s.fareDue = true) ∧ s.testDue = s) := by
  unfold State.testDue
  split
  · rename_i h; exact .inl ⟨h.1, h.2, rfl⟩
  · rename_i h; exact .inr ⟨h, rfl⟩

/-- `testDue` leaves these fields, and the store's memory and operation. -/
@[simp] theorem State.testDue_keeps :
    (s.testDue).now = s.now ∧ (s.testDue).free = s.free ∧ (s.testDue).phase = s.phase ∧
    (s.testDue).scanStep = s.scanStep ∧ (s.testDue).scanWork = s.scanWork ∧
    (s.testDue).supplyWarning = s.supplyWarning ∧ (s.testDue).clock = s.clock ∧ (s.testDue).check = s.check ∧
    (s.testDue).recovery = s.recovery ∧ (s.testDue).aisle = s.aisle ∧ (s.testDue).drive = s.drive ∧
    (s.testDue).journal = s.journal ∧ (s.testDue).station = s.station ∧ (s.testDue).settings = s.settings ∧
    (s.testDue).pending = s.pending ∧ (s.testDue).store.memory = s.store.memory ∧
    (s.testDue).store.op = s.store.op := by
  obtain ⟨_, _, h⟩ | ⟨_, h⟩ := s.testDue_cases <;> rw [h] <;> simp

end Sys2Proof.Machine
end

