-- ==== Sys2Proof/Laws/Frames.lean ====
section
/-! SUPPORT. What each shared operation leaves as it was.

One theorem per operation: every field of the state that it never writes, and the parts it keeps of a field it writes.
Each cites the theorems of the operations it is made of, and is tagged `simp` for those built on it. -/

namespace Sys2Proof.Machine

variable (s : State)

/-- Releasing the claim writes the claim only. -/
@[simp] theorem Aisle.settleClaim_keeps (a : Aisle) :
    a.settleClaim.mode = a.mode ∧ a.settleClaim.returnMode = a.returnMode ∧
    a.settleClaim.hostEmergency = a.hostEmergency ∧ a.settleClaim.emergencyLine = a.emergencyLine ∧
    a.settleClaim.direction = a.direction ∧ a.settleClaim.pendingDirection = a.pendingDirection ∧
    a.settleClaim.beamA = a.beamA ∧ a.settleClaim.beamS = a.beamS ∧ a.settleClaim.beamB = a.beamB ∧
    a.settleClaim.credits = a.credits ∧ a.settleClaim.phase = a.phase ∧ a.settleClaim.target = a.target ∧
    a.settleClaim.window = a.window ∧ a.settleClaim.closeDelay = a.closeDelay := by
  unfold Aisle.settleClaim
  split <;> simp

/-- A filtered change of a beam writes the beams only. -/
@[simp] theorem Aisle.takeBeam_keeps (a : Aisle) (b : Beam) (now limit : Nat) :
    (a.takeBeam b now limit).mode = a.mode ∧ (a.takeBeam b now limit).returnMode = a.returnMode ∧
    (a.takeBeam b now limit).hostEmergency = a.hostEmergency ∧
    (a.takeBeam b now limit).emergencyLine = a.emergencyLine ∧ (a.takeBeam b now limit).direction = a.direction ∧
    (a.takeBeam b now limit).pendingDirection = a.pendingDirection ∧ (a.takeBeam b now limit).claim = a.claim ∧
    (a.takeBeam b now limit).credits = a.credits ∧ (a.takeBeam b now limit).phase = a.phase ∧
    (a.takeBeam b now limit).target = a.target ∧ (a.takeBeam b now limit).closeDelay = a.closeDelay := by
  and_intros <;> rfl

/-- A suspension and a restart leave the store's bytes and its jobs. -/
@[simp] theorem Store.suspend_keeps (st : Store) : st.suspend.memory = st.memory ∧ st.suspend.jobs = st.jobs := ⟨rfl, rfl⟩
@[simp] theorem Store.resume_keeps (st : Store) (now : Nat) :
    (st.resume now).memory = st.memory ∧ (st.resume now).jobs = st.jobs := ⟨rfl, rfl⟩

@[simp] theorem Store.setFill_keeps (st : Store) (k x : Nat) :
    (st.setFill k x).memory = st.memory ∧ (st.setFill k x).op = st.op ∧ (st.setFill k x).jobs = st.jobs ∧
    (st.setFill k x).faultCount = st.faultCount ∧ (st.setFill k x).latestFault = st.latestFault := by
  unfold Store.setFill; split <;> and_intros <;> rfl

/-- A fill position taken anew leaves the rest of the store. -/
@[simp] theorem Store.refill_keeps (st : Store) (k : Nat) :
    (st.refill k).memory = st.memory ∧ (st.refill k).op = st.op ∧ (st.refill k).jobs = st.jobs ∧
    (st.refill k).faultCount = st.faultCount ∧ (st.refill k).latestFault = st.latestFault := by
  unfold Store.refill; split <;> simp

@[simp] theorem State.raiseIf_keeps (c : Bool) (k : EventKind) :
    (s.raiseIf c k).now = s.now ∧ (s.raiseIf c k).free = s.free ∧ (s.raiseIf c k).phase = s.phase ∧
    (s.raiseIf c k).scanStep = s.scanStep ∧ (s.raiseIf c k).scanWork = s.scanWork ∧
    (s.raiseIf c k).supplyWarning = s.supplyWarning ∧ (s.raiseIf c k).clock = s.clock ∧
    (s.raiseIf c k).cards = s.cards ∧ (s.raiseIf c k).check = s.check ∧ (s.raiseIf c k).recovery = s.recovery ∧
    (s.raiseIf c k).fare = s.fare ∧ (s.raiseIf c k).aisle = s.aisle ∧ (s.raiseIf c k).drive = s.drive ∧
    (s.raiseIf c k).journal = s.journal ∧ (s.raiseIf c k).store = s.store ∧ (s.raiseIf c k).station = s.station ∧
    (s.raiseIf c k).loader = s.loader ∧ (s.raiseIf c k).settings = s.settings ∧
    (s.raiseIf c k).pending = s.pending := by
  unfold State.raiseIf
  try simp only []
  repeat' split
  all_goals simp

@[simp] theorem State.jobAdvance_keeps (n : Option Nat) :
    (s.jobAdvance n).now = s.now ∧ (s.jobAdvance n).free = s.free ∧ (s.jobAdvance n).phase = s.phase ∧
    (s.jobAdvance n).scanStep = s.scanStep ∧ (s.jobAdvance n).scanWork = s.scanWork ∧
    (s.jobAdvance n).supplyWarning = s.supplyWarning ∧ (s.jobAdvance n).clock = s.clock ∧
    (s.jobAdvance n).link = s.link ∧ (s.jobAdvance n).cards = s.cards ∧ (s.jobAdvance n).check = s.check ∧
    (s.jobAdvance n).recovery = s.recovery ∧ (s.jobAdvance n).fare = s.fare ∧ (s.jobAdvance n).aisle = s.aisle ∧
    (s.jobAdvance n).drive = s.drive ∧ (s.jobAdvance n).journal = s.journal ∧ (s.jobAdvance n).station = s.station ∧
    (s.jobAdvance n).loader = s.loader ∧ (s.jobAdvance n).settings = s.settings ∧
    (s.jobAdvance n).pending = s.pending ∧ (s.jobAdvance n).store.memory = s.store.memory ∧
    (s.jobAdvance n).store.op = s.store.op := by
  unfold State.jobAdvance
  try simp only []
  repeat' split
  all_goals simp

@[simp] theorem State.queueControl_keeps (k : ControlKind) :
    (s.queueControl k).now = s.now ∧ (s.queueControl k).free = s.free ∧ (s.queueControl k).phase = s.phase ∧
    (s.queueControl k).scanStep = s.scanStep ∧ (s.queueControl k).scanWork = s.scanWork ∧
    (s.queueControl k).supplyWarning = s.supplyWarning ∧ (s.queueControl k).clock = s.clock ∧
    (s.queueControl k).link = s.link ∧ (s.queueControl k).cards = s.cards ∧ (s.queueControl k).check = s.check ∧
    (s.queueControl k).recovery = s.recovery ∧ (s.queueControl k).fare = s.fare ∧
    (s.queueControl k).aisle = s.aisle ∧ (s.queueControl k).drive = s.drive ∧
    (s.queueControl k).journal = s.journal ∧ (s.queueControl k).station = s.station ∧
    (s.queueControl k).loader = s.loader ∧ (s.queueControl k).settings = s.settings ∧
    (s.queueControl k).pending = s.pending ∧ (s.queueControl k).store.memory = s.store.memory ∧
    (s.queueControl k).store.op = s.store.op := by
  unfold State.queueControl; split <;> simp

@[simp] theorem State.queueRewrite_keeps :
    (s.queueRewrite).now = s.now ∧ (s.queueRewrite).free = s.free ∧ (s.queueRewrite).phase = s.phase ∧
    (s.queueRewrite).scanStep = s.scanStep ∧ (s.queueRewrite).scanWork = s.scanWork ∧
    (s.queueRewrite).supplyWarning = s.supplyWarning ∧ (s.queueRewrite).clock = s.clock ∧
    (s.queueRewrite).link = s.link ∧ (s.queueRewrite).cards = s.cards ∧ (s.queueRewrite).check = s.check ∧
    (s.queueRewrite).recovery = s.recovery ∧ (s.queueRewrite).fare = s.fare ∧ (s.queueRewrite).aisle = s.aisle ∧
    (s.queueRewrite).drive = s.drive ∧ (s.queueRewrite).journal = s.journal ∧ (s.queueRewrite).station = s.station ∧
    (s.queueRewrite).loader = s.loader ∧ (s.queueRewrite).settings = s.settings ∧
    (s.queueRewrite).pending = s.pending ∧ (s.queueRewrite).store.memory = s.store.memory ∧
    (s.queueRewrite).store.op = s.store.op := by
  unfold State.queueRewrite; split <;> simp

@[simp] theorem State.startJob_keeps :
    (s.startJob).now = s.now ∧ (s.startJob).free = s.free ∧ (s.startJob).phase = s.phase ∧
    (s.startJob).scanStep = s.scanStep ∧ (s.startJob).scanWork = s.scanWork ∧
    (s.startJob).supplyWarning = s.supplyWarning ∧ (s.startJob).clock = s.clock ∧ (s.startJob).link = s.link ∧
    (s.startJob).cards = s.cards ∧ (s.startJob).check = s.check ∧ (s.startJob).recovery = s.recovery ∧
    (s.startJob).fare = s.fare ∧ (s.startJob).aisle = s.aisle ∧ (s.startJob).drive = s.drive ∧
    (s.startJob).journal = s.journal ∧ (s.startJob).station = s.station ∧ (s.startJob).loader = s.loader ∧
    (s.startJob).settings = s.settings ∧ (s.startJob).pending = s.pending ∧
    (s.startJob).store.memory = s.store.memory := by
  unfold State.startJob; split <;> simp

@[simp] theorem State.startStore_keeps :
    (s.startStore).now = s.now ∧ (s.startStore).free = s.free ∧ (s.startStore).phase = s.phase ∧
    (s.startStore).scanStep = s.scanStep ∧ (s.startStore).scanWork = s.scanWork ∧
    (s.startStore).supplyWarning = s.supplyWarning ∧ (s.startStore).clock = s.clock ∧ (s.startStore).link = s.link ∧
    (s.startStore).cards = s.cards ∧ (s.startStore).check = s.check ∧ (s.startStore).recovery = s.recovery ∧
    (s.startStore).fare = s.fare ∧ (s.startStore).aisle = s.aisle ∧ (s.startStore).drive = s.drive ∧
    (s.startStore).station = s.station ∧ (s.startStore).loader = s.loader ∧ (s.startStore).settings = s.settings ∧
    (s.startStore).pending = s.pending ∧ (s.startStore).store.memory = s.store.memory ∧
    (s.startStore).journal.staging = s.journal.staging ∧
    (s.startStore).journal.reservations = s.journal.reservations ∧
    (s.startStore).journal.waiting = s.journal.waiting ∧ (s.startStore).journal.nextSeq = s.journal.nextSeq ∧
    (s.startStore).journal.newestAssigned = s.journal.newestAssigned ∧
    (s.startStore).journal.newestProgrammed = s.journal.newestProgrammed ∧
    (s.startStore).journal.floor = s.journal.floor ∧ (s.startStore).journal.sectors = s.journal.sectors ∧
    (s.startStore).journal.writePos = s.journal.writePos ∧
    (s.startStore).journal.positions = s.journal.positions := by
  unfold State.startStore
  split
  · and_intros <;> rfl
  · split
    · and_intros <;> rfl
    · and_intros <;> rfl
    · split <;> simp
    · split
      · simp
      · simp only []
        have h : s.journal.takeUpErase.staging = s.journal.staging ∧ True := by
          unfold Journal.takeUpErase; split <;> (try split) <;> simp
        split <;> simp <;> (unfold Journal.takeUpErase; split <;> (try split) <;> simp)

@[simp] theorem State.tearStore_keeps :
    (s.tearStore).now = s.now ∧ (s.tearStore).phase = s.phase ∧ (s.tearStore).scanStep = s.scanStep ∧
    (s.tearStore).scanWork = s.scanWork ∧ (s.tearStore).supplyWarning = s.supplyWarning ∧
    (s.tearStore).clock = s.clock ∧ (s.tearStore).link = s.link ∧ (s.tearStore).cards = s.cards ∧
    (s.tearStore).check = s.check ∧ (s.tearStore).recovery = s.recovery ∧ (s.tearStore).fare = s.fare ∧
    (s.tearStore).aisle = s.aisle ∧ (s.tearStore).drive = s.drive ∧ (s.tearStore).journal = s.journal ∧
    (s.tearStore).station = s.station ∧ (s.tearStore).loader = s.loader ∧ (s.tearStore).settings = s.settings ∧
    (s.tearStore).pending = s.pending ∧ (s.tearStore).store.jobs = s.store.jobs := by
  unfold State.tearStore
  try simp only []
  repeat' split
  all_goals simp

@[simp] theorem State.endOp_keeps (ok : Bool) (o : StoreOp) :
    (s.endOp ok o).now = s.now ∧ (s.endOp ok o).phase = s.phase ∧ (s.endOp ok o).scanStep = s.scanStep ∧
    (s.endOp ok o).scanWork = s.scanWork ∧ (s.endOp ok o).supplyWarning = s.supplyWarning ∧
    (s.endOp ok o).clock = s.clock ∧ (s.endOp ok o).cards = s.cards ∧ (s.endOp ok o).check = s.check ∧
    (s.endOp ok o).recovery = s.recovery ∧ (s.endOp ok o).fare = s.fare ∧ (s.endOp ok o).aisle = s.aisle ∧
    (s.endOp ok o).drive = s.drive ∧ (s.endOp ok o).journal = s.journal ∧ (s.endOp ok o).station = s.station ∧
    (s.endOp ok o).loader = s.loader ∧ (s.endOp ok o).settings = s.settings ∧ (s.endOp ok o).pending = s.pending ∧
    (s.endOp ok o).store.jobs = s.store.jobs := by
  unfold State.endOp
  simp only []
  split <;> simp

@[simp] theorem State.raiseJournalLevels_keeps (j : Journal) :
    (s.raiseJournalLevels j).now = s.now ∧ (s.raiseJournalLevels j).free = s.free ∧
    (s.raiseJournalLevels j).phase = s.phase ∧ (s.raiseJournalLevels j).scanStep = s.scanStep ∧
    (s.raiseJournalLevels j).scanWork = s.scanWork ∧ (s.raiseJournalLevels j).supplyWarning = s.supplyWarning ∧
    (s.raiseJournalLevels j).clock = s.clock ∧ (s.raiseJournalLevels j).cards = s.cards ∧
    (s.raiseJournalLevels j).check = s.check ∧ (s.raiseJournalLevels j).recovery = s.recovery ∧
    (s.raiseJournalLevels j).fare = s.fare ∧ (s.raiseJournalLevels j).aisle = s.aisle ∧
    (s.raiseJournalLevels j).drive = s.drive ∧ (s.raiseJournalLevels j).journal = s.journal ∧
    (s.raiseJournalLevels j).store = s.store ∧ (s.raiseJournalLevels j).station = s.station ∧
    (s.raiseJournalLevels j).loader = s.loader ∧ (s.raiseJournalLevels j).settings = s.settings ∧
    (s.raiseJournalLevels j).pending = s.pending := by
  unfold State.raiseJournalLevels
  try simp only []
  repeat' split
  all_goals simp

@[simp] theorem State.enterRecord_keeps (rec : JournalRecord) (o : RecordOwner) :
    (s.enterRecord rec o).now = s.now ∧ (s.enterRecord rec o).free = s.free ∧ (s.enterRecord rec o).phase = s.phase ∧
    (s.enterRecord rec o).scanStep = s.scanStep ∧ (s.enterRecord rec o).scanWork = s.scanWork ∧
    (s.enterRecord rec o).supplyWarning = s.supplyWarning ∧ (s.enterRecord rec o).clock = s.clock ∧
    (s.enterRecord rec o).cards = s.cards ∧ (s.enterRecord rec o).check = s.check ∧
    (s.enterRecord rec o).recovery = s.recovery ∧ (s.enterRecord rec o).fare = s.fare ∧
    (s.enterRecord rec o).aisle = s.aisle ∧ (s.enterRecord rec o).drive = s.drive ∧
    (s.enterRecord rec o).store = s.store ∧ (s.enterRecord rec o).station = s.station ∧
    (s.enterRecord rec o).loader = s.loader ∧ (s.enterRecord rec o).settings = s.settings ∧
    (s.enterRecord rec o).pending = s.pending := by
  unfold State.enterRecord
  try simp only []
  repeat' split
  all_goals simp

@[simp] theorem State.offerRecord_keeps (rec : JournalRecord) :
    (s.offerRecord rec).now = s.now ∧ (s.offerRecord rec).free = s.free ∧ (s.offerRecord rec).phase = s.phase ∧
    (s.offerRecord rec).scanStep = s.scanStep ∧ (s.offerRecord rec).scanWork = s.scanWork ∧
    (s.offerRecord rec).supplyWarning = s.supplyWarning ∧ (s.offerRecord rec).clock = s.clock ∧
    (s.offerRecord rec).cards = s.cards ∧ (s.offerRecord rec).check = s.check ∧
    (s.offerRecord rec).recovery = s.recovery ∧ (s.offerRecord rec).fare = s.fare ∧
    (s.offerRecord rec).aisle = s.aisle ∧ (s.offerRecord rec).drive = s.drive ∧ (s.offerRecord rec).store = s.store ∧
    (s.offerRecord rec).station = s.station ∧ (s.offerRecord rec).loader = s.loader ∧
    (s.offerRecord rec).settings = s.settings ∧ (s.offerRecord rec).pending = s.pending := by
  unfold State.offerRecord
  try simp only []
  repeat' split
  all_goals simp

@[simp] theorem State.submitRecord_keeps (r : Reader) (rec : JournalRecord) :
    (s.submitRecord r rec).now = s.now ∧ (s.submitRecord r rec).free = s.free ∧
    (s.submitRecord r rec).phase = s.phase ∧ (s.submitRecord r rec).scanStep = s.scanStep ∧
    (s.submitRecord r rec).scanWork = s.scanWork ∧ (s.submitRecord r rec).supplyWarning = s.supplyWarning ∧
    (s.submitRecord r rec).clock = s.clock ∧ (s.submitRecord r rec).cards = s.cards ∧
    (s.submitRecord r rec).check = s.check ∧ (s.submitRecord r rec).recovery = s.recovery ∧
    (s.submitRecord r rec).fare = s.fare ∧ (s.submitRecord r rec).aisle = s.aisle ∧
    (s.submitRecord r rec).drive = s.drive ∧ (s.submitRecord r rec).store = s.store ∧
    (s.submitRecord r rec).station = s.station ∧ (s.submitRecord r rec).loader = s.loader ∧
    (s.submitRecord r rec).settings = s.settings ∧ (s.submitRecord r rec).pending = s.pending := by
  unfold State.submitRecord
  try simp only []
  repeat' split
  all_goals simp

@[simp] theorem State.markRecord_keeps (n : Nat) (st : RecordStatus) (e : Option RecoveryEntry) :
    (s.markRecord n st e).now = s.now ∧ (s.markRecord n st e).free = s.free ∧ (s.markRecord n st e).phase = s.phase ∧
    (s.markRecord n st e).scanStep = s.scanStep ∧ (s.markRecord n st e).scanWork = s.scanWork ∧
    (s.markRecord n st e).supplyWarning = s.supplyWarning ∧ (s.markRecord n st e).clock = s.clock ∧
    (s.markRecord n st e).link = s.link ∧ (s.markRecord n st e).cards = s.cards ∧
    (s.markRecord n st e).check = s.check ∧ (s.markRecord n st e).recovery = s.recovery ∧
    (s.markRecord n st e).fare = s.fare ∧ (s.markRecord n st e).aisle = s.aisle ∧
    (s.markRecord n st e).drive = s.drive ∧ (s.markRecord n st e).store = s.store ∧
    (s.markRecord n st e).station = s.station ∧ (s.markRecord n st e).loader = s.loader ∧
    (s.markRecord n st e).settings = s.settings ∧ (s.markRecord n st e).pending = s.pending := by
  unfold State.markRecord
  try simp only []
  repeat' split
  all_goals simp

@[simp] theorem State.markIntent_keeps (r : Reader) (st : RecordStatus) (e : Option RecoveryEntry) :
    (s.markIntent r st e).now = s.now ∧ (s.markIntent r st e).free = s.free ∧ (s.markIntent r st e).phase = s.phase ∧
    (s.markIntent r st e).scanStep = s.scanStep ∧ (s.markIntent r st e).scanWork = s.scanWork ∧
    (s.markIntent r st e).supplyWarning = s.supplyWarning ∧ (s.markIntent r st e).clock = s.clock ∧
    (s.markIntent r st e).link = s.link ∧ (s.markIntent r st e).cards = s.cards ∧
    (s.markIntent r st e).check = s.check ∧ (s.markIntent r st e).recovery = s.recovery ∧
    (s.markIntent r st e).fare = s.fare ∧ (s.markIntent r st e).aisle = s.aisle ∧
    (s.markIntent r st e).drive = s.drive ∧ (s.markIntent r st e).store = s.store ∧
    (s.markIntent r st e).station = s.station ∧ (s.markIntent r st e).loader = s.loader ∧
    (s.markIntent r st e).settings = s.settings ∧ (s.markIntent r st e).pending = s.pending := by
  unfold State.markIntent
  try simp only []
  repeat' split
  all_goals simp

@[simp] theorem State.raiseAll_keeps (ks : List EventKind) :
    (s.raiseAll ks).now = s.now ∧ (s.raiseAll ks).free = s.free ∧ (s.raiseAll ks).phase = s.phase ∧
    (s.raiseAll ks).scanStep = s.scanStep ∧ (s.raiseAll ks).scanWork = s.scanWork ∧
    (s.raiseAll ks).supplyWarning = s.supplyWarning ∧ (s.raiseAll ks).clock = s.clock ∧
    (s.raiseAll ks).cards = s.cards ∧ (s.raiseAll ks).check = s.check ∧ (s.raiseAll ks).recovery = s.recovery ∧
    (s.raiseAll ks).fare = s.fare ∧ (s.raiseAll ks).aisle = s.aisle ∧ (s.raiseAll ks).drive = s.drive ∧
    (s.raiseAll ks).journal = s.journal ∧ (s.raiseAll ks).store = s.store ∧ (s.raiseAll ks).station = s.station ∧
    (s.raiseAll ks).loader = s.loader ∧ (s.raiseAll ks).settings = s.settings ∧
    (s.raiseAll ks).pending = s.pending := by
  induction ks generalizing s with
  | nil => and_intros <;> rfl
  | cons k ks ih => simpa [State.raiseAll] using ih (s.raise k)

@[simp] theorem State.moveLeaf_keeps (side : LeafSide) (f : DriveView → Leaf → Moved) :
    (s.moveLeaf side f).now = s.now ∧ (s.moveLeaf side f).free = s.free ∧ (s.moveLeaf side f).phase = s.phase ∧
    (s.moveLeaf side f).scanStep = s.scanStep ∧ (s.moveLeaf side f).scanWork = s.scanWork ∧
    (s.moveLeaf side f).supplyWarning = s.supplyWarning ∧ (s.moveLeaf side f).clock = s.clock ∧
    (s.moveLeaf side f).cards = s.cards ∧ (s.moveLeaf side f).check = s.check ∧
    (s.moveLeaf side f).recovery = s.recovery ∧ (s.moveLeaf side f).fare = s.fare ∧
    (s.moveLeaf side f).aisle = s.aisle ∧ (s.moveLeaf side f).journal = s.journal ∧
    (s.moveLeaf side f).store = s.store ∧ (s.moveLeaf side f).station = s.station ∧
    (s.moveLeaf side f).loader = s.loader ∧ (s.moveLeaf side f).settings = s.settings ∧
    (s.moveLeaf side f).pending = s.pending ∧ (s.moveLeaf side f).drive.inForce = s.drive.inForce := by
  unfold State.moveLeaf; simp; cases side <;> rfl

@[simp] theorem State.moveLeaves_keeps (f : DriveView → Leaf → Moved) :
    (s.moveLeaves f).now = s.now ∧ (s.moveLeaves f).free = s.free ∧ (s.moveLeaves f).phase = s.phase ∧
    (s.moveLeaves f).scanStep = s.scanStep ∧ (s.moveLeaves f).scanWork = s.scanWork ∧
    (s.moveLeaves f).supplyWarning = s.supplyWarning ∧ (s.moveLeaves f).clock = s.clock ∧
    (s.moveLeaves f).cards = s.cards ∧ (s.moveLeaves f).check = s.check ∧ (s.moveLeaves f).recovery = s.recovery ∧
    (s.moveLeaves f).fare = s.fare ∧ (s.moveLeaves f).aisle = s.aisle ∧ (s.moveLeaves f).journal = s.journal ∧
    (s.moveLeaves f).store = s.store ∧ (s.moveLeaves f).station = s.station ∧ (s.moveLeaves f).loader = s.loader ∧
    (s.moveLeaves f).settings = s.settings ∧ (s.moveLeaves f).pending = s.pending ∧
    (s.moveLeaves f).drive.inForce = s.drive.inForce := by
  unfold State.moveLeaves
  try simp only []
  repeat' split
  all_goals simp

@[simp] theorem State.handTarget_keeps :
    (s.handTarget).now = s.now ∧ (s.handTarget).free = s.free ∧ (s.handTarget).phase = s.phase ∧
    (s.handTarget).scanStep = s.scanStep ∧ (s.handTarget).scanWork = s.scanWork ∧
    (s.handTarget).supplyWarning = s.supplyWarning ∧ (s.handTarget).clock = s.clock ∧
    (s.handTarget).cards = s.cards ∧ (s.handTarget).check = s.check ∧ (s.handTarget).recovery = s.recovery ∧
    (s.handTarget).fare = s.fare ∧ (s.handTarget).aisle = s.aisle ∧ (s.handTarget).journal = s.journal ∧
    (s.handTarget).store = s.store ∧ (s.handTarget).station = s.station ∧ (s.handTarget).loader = s.loader ∧
    (s.handTarget).settings = s.settings ∧ (s.handTarget).pending = s.pending := by
  unfold State.handTarget
  try simp only []
  repeat' split
  all_goals simp

@[simp] theorem State.handAnew_keeps :
    (s.handAnew).now = s.now ∧ (s.handAnew).free = s.free ∧ (s.handAnew).phase = s.phase ∧
    (s.handAnew).scanStep = s.scanStep ∧ (s.handAnew).scanWork = s.scanWork ∧
    (s.handAnew).supplyWarning = s.supplyWarning ∧ (s.handAnew).clock = s.clock ∧ (s.handAnew).cards = s.cards ∧
    (s.handAnew).check = s.check ∧ (s.handAnew).recovery = s.recovery ∧ (s.handAnew).fare = s.fare ∧
    (s.handAnew).aisle = s.aisle ∧ (s.handAnew).journal = s.journal ∧ (s.handAnew).store = s.store ∧
    (s.handAnew).station = s.station ∧ (s.handAnew).loader = s.loader ∧ (s.handAnew).settings = s.settings ∧
    (s.handAnew).pending = s.pending := by
  unfold State.handAnew
  try simp only []
  repeat' split
  all_goals simp

@[simp] theorem State.handWarning_keeps :
    (s.handWarning).now = s.now ∧ (s.handWarning).free = s.free ∧ (s.handWarning).phase = s.phase ∧
    (s.handWarning).scanStep = s.scanStep ∧ (s.handWarning).scanWork = s.scanWork ∧
    (s.handWarning).supplyWarning = s.supplyWarning ∧ (s.handWarning).clock = s.clock ∧ (s.handWarning).cards = s.cards ∧
    (s.handWarning).check = s.check ∧ (s.handWarning).recovery = s.recovery ∧ (s.handWarning).fare = s.fare ∧
    (s.handWarning).aisle = s.aisle ∧ (s.handWarning).journal = s.journal ∧ (s.handWarning).store = s.store ∧
    (s.handWarning).station = s.station ∧ (s.handWarning).loader = s.loader ∧ (s.handWarning).settings = s.settings ∧
    (s.handWarning).pending = s.pending := by
  unfold State.handWarning
  try simp only []
  repeat' split
  all_goals simp

@[simp] theorem State.retarget_keeps (b : Bool) :
    (s.retarget b).now = s.now ∧ (s.retarget b).free = s.free ∧ (s.retarget b).phase = s.phase ∧
    (s.retarget b).scanStep = s.scanStep ∧ (s.retarget b).scanWork = s.scanWork ∧
    (s.retarget b).supplyWarning = s.supplyWarning ∧ (s.retarget b).clock = s.clock ∧
    (s.retarget b).cards = s.cards ∧ (s.retarget b).check = s.check ∧ (s.retarget b).recovery = s.recovery ∧
    (s.retarget b).fare = s.fare ∧ (s.retarget b).journal = s.journal ∧ (s.retarget b).store = s.store ∧
    (s.retarget b).station = s.station ∧ (s.retarget b).loader = s.loader ∧ (s.retarget b).settings = s.settings ∧
    (s.retarget b).pending = s.pending ∧ (s.retarget b).aisle.mode = s.aisle.mode ∧
    (s.retarget b).aisle.returnMode = s.aisle.returnMode ∧
    (s.retarget b).aisle.hostEmergency = s.aisle.hostEmergency ∧
    (s.retarget b).aisle.emergencyLine = s.aisle.emergencyLine ∧ (s.retarget b).aisle.direction = s.aisle.direction ∧
    (s.retarget b).aisle.pendingDirection = s.aisle.pendingDirection ∧ (s.retarget b).aisle.beamA = s.aisle.beamA ∧
    (s.retarget b).aisle.beamS = s.aisle.beamS ∧ (s.retarget b).aisle.beamB = s.aisle.beamB ∧
    (s.retarget b).aisle.claim = s.aisle.claim ∧ (s.retarget b).aisle.credits = s.aisle.credits ∧
    (s.retarget b).aisle.window = s.aisle.window ∧ (s.retarget b).aisle.closeDelay = s.aisle.closeDelay ∧
    (s.retarget b).aisle.phase = s.aisle.phase ∧ (s.retarget b).aisle.leadPast = s.aisle.leadPast ∧
    (s.retarget b).aisle.inboundCount = s.aisle.inboundCount ∧
    (s.retarget b).aisle.outboundCount = s.aisle.outboundCount ∧
    (s.retarget b).aisle.unpaidCount = s.aisle.unpaidCount := by
  unfold State.retarget
  try simp only []
  repeat' split
  all_goals simp

@[simp] theorem State.removeCreditAisle_keeps (r : Reader) :
    (s.removeCredit r).aisle.mode = s.aisle.mode ∧ (s.removeCredit r).aisle.returnMode = s.aisle.returnMode ∧
    (s.removeCredit r).aisle.hostEmergency = s.aisle.hostEmergency ∧
    (s.removeCredit r).aisle.emergencyLine = s.aisle.emergencyLine ∧
    (s.removeCredit r).aisle.direction = s.aisle.direction ∧
    (s.removeCredit r).aisle.pendingDirection = s.aisle.pendingDirection ∧
    (s.removeCredit r).aisle.beamA = s.aisle.beamA ∧ (s.removeCredit r).aisle.beamS = s.aisle.beamS ∧
    (s.removeCredit r).aisle.beamB = s.aisle.beamB ∧ (s.removeCredit r).aisle.phase = s.aisle.phase ∧
    (s.removeCredit r).aisle.target = s.aisle.target ∧ (s.removeCredit r).aisle.closeDelay = s.aisle.closeDelay ∧
    (s.removeCredit r).aisle.window = s.aisle.window := by
  unfold State.removeCredit Aisle.settleClaim; simp only []; split <;> simp

@[simp] theorem State.afterActivation_keeps (b : Bool) :
    (s.afterActivation b).now = s.now ∧ (s.afterActivation b).free = s.free ∧ (s.afterActivation b).phase = s.phase ∧
    (s.afterActivation b).scanStep = s.scanStep ∧ (s.afterActivation b).scanWork = s.scanWork ∧
    (s.afterActivation b).supplyWarning = s.supplyWarning ∧ (s.afterActivation b).clock = s.clock ∧
    (s.afterActivation b).cards = s.cards ∧ (s.afterActivation b).check = s.check ∧
    (s.afterActivation b).recovery = s.recovery ∧ (s.afterActivation b).fare = s.fare ∧
    (s.afterActivation b).journal = s.journal ∧ (s.afterActivation b).store = s.store ∧
    (s.afterActivation b).station = s.station ∧ (s.afterActivation b).loader = s.loader ∧
    (s.afterActivation b).settings = s.settings ∧ (s.afterActivation b).pending = s.pending ∧
    (s.afterActivation b).aisle.mode = s.aisle.mode ∧ (s.afterActivation b).aisle.returnMode = s.aisle.returnMode ∧
    (s.afterActivation b).aisle.hostEmergency = s.aisle.hostEmergency ∧
    (s.afterActivation b).aisle.emergencyLine = s.aisle.emergencyLine ∧
    (s.afterActivation b).aisle.direction = s.aisle.direction ∧
    (s.afterActivation b).aisle.pendingDirection = s.aisle.pendingDirection ∧
    (s.afterActivation b).aisle.beamA = s.aisle.beamA ∧ (s.afterActivation b).aisle.beamS = s.aisle.beamS ∧
    (s.afterActivation b).aisle.beamB = s.aisle.beamB ∧ (s.afterActivation b).aisle.claim = s.aisle.claim ∧
    (s.afterActivation b).aisle.credits = s.aisle.credits ∧ (s.afterActivation b).aisle.phase = s.aisle.phase := by
  unfold State.afterActivation
  try simp only []
  repeat' split
  all_goals simp

@[simp] theorem State.addCredit_keeps (c : Credit) :
    (s.addCredit c).now = s.now ∧ (s.addCredit c).free = s.free ∧ (s.addCredit c).phase = s.phase ∧
    (s.addCredit c).scanStep = s.scanStep ∧ (s.addCredit c).scanWork = s.scanWork ∧
    (s.addCredit c).supplyWarning = s.supplyWarning ∧ (s.addCredit c).clock = s.clock ∧
    (s.addCredit c).cards = s.cards ∧ (s.addCredit c).check = s.check ∧ (s.addCredit c).recovery = s.recovery ∧
    (s.addCredit c).fare = s.fare ∧ (s.addCredit c).journal = s.journal ∧ (s.addCredit c).store = s.store ∧
    (s.addCredit c).station = s.station ∧ (s.addCredit c).loader = s.loader ∧ (s.addCredit c).settings = s.settings ∧
    (s.addCredit c).pending = s.pending ∧ (s.addCredit c).aisle.mode = s.aisle.mode ∧
    (s.addCredit c).aisle.returnMode = s.aisle.returnMode ∧
    (s.addCredit c).aisle.hostEmergency = s.aisle.hostEmergency ∧
    (s.addCredit c).aisle.emergencyLine = s.aisle.emergencyLine ∧
    (s.addCredit c).aisle.direction = s.aisle.direction ∧
    (s.addCredit c).aisle.pendingDirection = s.aisle.pendingDirection ∧ (s.addCredit c).aisle.beamA = s.aisle.beamA ∧
    (s.addCredit c).aisle.beamS = s.aisle.beamS ∧ (s.addCredit c).aisle.beamB = s.aisle.beamB ∧
    (s.addCredit c).aisle.phase = s.aisle.phase := by
  unfold State.addCredit
  try simp only []
  repeat' split
  all_goals simp

@[simp] theorem State.activateCredit_keeps (r : Reader) :
    (s.activateCredit r).now = s.now ∧ (s.activateCredit r).free = s.free ∧ (s.activateCredit r).phase = s.phase ∧
    (s.activateCredit r).scanStep = s.scanStep ∧ (s.activateCredit r).scanWork = s.scanWork ∧
    (s.activateCredit r).supplyWarning = s.supplyWarning ∧ (s.activateCredit r).clock = s.clock ∧
    (s.activateCredit r).cards = s.cards ∧ (s.activateCredit r).check = s.check ∧
    (s.activateCredit r).recovery = s.recovery ∧ (s.activateCredit r).fare = s.fare ∧
    (s.activateCredit r).journal = s.journal ∧ (s.activateCredit r).store = s.store ∧
    (s.activateCredit r).station = s.station ∧ (s.activateCredit r).loader = s.loader ∧
    (s.activateCredit r).settings = s.settings ∧ (s.activateCredit r).pending = s.pending ∧
    (s.activateCredit r).aisle.mode = s.aisle.mode ∧ (s.activateCredit r).aisle.returnMode = s.aisle.returnMode ∧
    (s.activateCredit r).aisle.hostEmergency = s.aisle.hostEmergency ∧
    (s.activateCredit r).aisle.emergencyLine = s.aisle.emergencyLine ∧
    (s.activateCredit r).aisle.direction = s.aisle.direction ∧
    (s.activateCredit r).aisle.pendingDirection = s.aisle.pendingDirection ∧
    (s.activateCredit r).aisle.beamA = s.aisle.beamA ∧ (s.activateCredit r).aisle.beamS = s.aisle.beamS ∧
    (s.activateCredit r).aisle.beamB = s.aisle.beamB ∧ (s.activateCredit r).aisle.phase = s.aisle.phase ∧
    (s.activateCredit r).aisle.claim = s.aisle.claim := by
  unfold State.activateCredit
  try simp only []
  repeat' split
  all_goals simp

@[simp] theorem State.startCloseDelay_keeps :
    (s.startCloseDelay).now = s.now ∧ (s.startCloseDelay).free = s.free ∧ (s.startCloseDelay).phase = s.phase ∧
    (s.startCloseDelay).scanStep = s.scanStep ∧ (s.startCloseDelay).scanWork = s.scanWork ∧
    (s.startCloseDelay).supplyWarning = s.supplyWarning ∧ (s.startCloseDelay).clock = s.clock ∧
    (s.startCloseDelay).link = s.link ∧ (s.startCloseDelay).cards = s.cards ∧ (s.startCloseDelay).check = s.check ∧
    (s.startCloseDelay).recovery = s.recovery ∧ (s.startCloseDelay).fare = s.fare ∧
    (s.startCloseDelay).drive = s.drive ∧ (s.startCloseDelay).journal = s.journal ∧
    (s.startCloseDelay).store = s.store ∧ (s.startCloseDelay).station = s.station ∧
    (s.startCloseDelay).loader = s.loader ∧ (s.startCloseDelay).settings = s.settings ∧
    (s.startCloseDelay).pending = s.pending ∧ (s.startCloseDelay).aisle.mode = s.aisle.mode ∧
    (s.startCloseDelay).aisle.returnMode = s.aisle.returnMode ∧
    (s.startCloseDelay).aisle.hostEmergency = s.aisle.hostEmergency ∧
    (s.startCloseDelay).aisle.emergencyLine = s.aisle.emergencyLine ∧
    (s.startCloseDelay).aisle.direction = s.aisle.direction ∧
    (s.startCloseDelay).aisle.pendingDirection = s.aisle.pendingDirection ∧
    (s.startCloseDelay).aisle.beamA = s.aisle.beamA ∧ (s.startCloseDelay).aisle.beamS = s.aisle.beamS ∧
    (s.startCloseDelay).aisle.beamB = s.aisle.beamB ∧ (s.startCloseDelay).aisle.claim = s.aisle.claim ∧
    (s.startCloseDelay).aisle.credits = s.aisle.credits ∧ (s.startCloseDelay).aisle.phase = s.aisle.phase ∧
    (s.startCloseDelay).aisle.target = s.aisle.target ∧ (s.startCloseDelay).aisle.window = s.aisle.window := by
  unfold State.startCloseDelay
  try simp only []
  repeat' split
  all_goals simp

@[simp] theorem State.expireCredit_keeps (c : Credit) :
    (s.expireCredit c).now = s.now ∧ (s.expireCredit c).free = s.free ∧ (s.expireCredit c).phase = s.phase ∧
    (s.expireCredit c).scanStep = s.scanStep ∧ (s.expireCredit c).scanWork = s.scanWork ∧
    (s.expireCredit c).supplyWarning = s.supplyWarning ∧ (s.expireCredit c).clock = s.clock ∧
    (s.expireCredit c).cards = s.cards ∧ (s.expireCredit c).check = s.check ∧
    (s.expireCredit c).recovery = s.recovery ∧ (s.expireCredit c).fare = s.fare ∧
    (s.expireCredit c).store = s.store ∧ (s.expireCredit c).station = s.station ∧
    (s.expireCredit c).loader = s.loader ∧ (s.expireCredit c).settings = s.settings ∧
    (s.expireCredit c).pending = s.pending ∧ (s.expireCredit c).aisle.mode = s.aisle.mode ∧
    (s.expireCredit c).aisle.returnMode = s.aisle.returnMode ∧
    (s.expireCredit c).aisle.hostEmergency = s.aisle.hostEmergency ∧
    (s.expireCredit c).aisle.emergencyLine = s.aisle.emergencyLine ∧
    (s.expireCredit c).aisle.direction = s.aisle.direction ∧
    (s.expireCredit c).aisle.pendingDirection = s.aisle.pendingDirection ∧
    (s.expireCredit c).aisle.beamA = s.aisle.beamA ∧ (s.expireCredit c).aisle.beamS = s.aisle.beamS ∧
    (s.expireCredit c).aisle.beamB = s.aisle.beamB ∧ (s.expireCredit c).aisle.phase = s.aisle.phase := by
  unfold State.expireCredit
  try simp only []
  repeat' split
  all_goals simp

@[simp] theorem State.handOver_keeps :
    (s.handOver).now = s.now ∧ (s.handOver).free = s.free ∧ (s.handOver).phase = s.phase ∧
    (s.handOver).scanStep = s.scanStep ∧ (s.handOver).scanWork = s.scanWork ∧
    (s.handOver).supplyWarning = s.supplyWarning ∧ (s.handOver).clock = s.clock ∧ (s.handOver).cards = s.cards ∧
    (s.handOver).check = s.check ∧ (s.handOver).recovery = s.recovery ∧ (s.handOver).fare = s.fare ∧
    (s.handOver).drive = s.drive ∧ (s.handOver).journal = s.journal ∧ (s.handOver).store = s.store ∧
    (s.handOver).station = s.station ∧ (s.handOver).loader = s.loader ∧ (s.handOver).settings = s.settings ∧
    (s.handOver).pending = s.pending ∧ (s.handOver).aisle.mode = s.aisle.mode ∧
    (s.handOver).aisle.returnMode = s.aisle.returnMode ∧ (s.handOver).aisle.hostEmergency = s.aisle.hostEmergency ∧
    (s.handOver).aisle.emergencyLine = s.aisle.emergencyLine ∧ (s.handOver).aisle.direction = s.aisle.direction ∧
    (s.handOver).aisle.pendingDirection = s.aisle.pendingDirection ∧ (s.handOver).aisle.beamA = s.aisle.beamA ∧
    (s.handOver).aisle.beamS = s.aisle.beamS ∧ (s.handOver).aisle.beamB = s.aisle.beamB ∧
    (s.handOver).aisle.claim = s.aisle.claim ∧ (s.handOver).aisle.credits = s.aisle.credits ∧
    (s.handOver).aisle.phase = s.aisle.phase ∧ (s.handOver).aisle.target = s.aisle.target ∧
    (s.handOver).aisle.window = s.aisle.window ∧ (s.handOver).aisle.closeDelay = s.aisle.closeDelay := by
  unfold State.handOver
  try simp only []
  repeat' split
  all_goals simp

@[simp] theorem State.testTailgate_keeps (d : Direction) :
    (s.testTailgate d).now = s.now ∧ (s.testTailgate d).free = s.free ∧ (s.testTailgate d).phase = s.phase ∧
    (s.testTailgate d).scanStep = s.scanStep ∧ (s.testTailgate d).scanWork = s.scanWork ∧
    (s.testTailgate d).supplyWarning = s.supplyWarning ∧ (s.testTailgate d).clock = s.clock ∧
    (s.testTailgate d).cards = s.cards ∧ (s.testTailgate d).check = s.check ∧
    (s.testTailgate d).recovery = s.recovery ∧ (s.testTailgate d).fare = s.fare ∧
    (s.testTailgate d).aisle = s.aisle ∧ (s.testTailgate d).drive = s.drive ∧
    (s.testTailgate d).journal = s.journal ∧ (s.testTailgate d).store = s.store ∧
    (s.testTailgate d).station = s.station ∧ (s.testTailgate d).loader = s.loader ∧
    (s.testTailgate d).settings = s.settings ∧ (s.testTailgate d).pending = s.pending := by
  unfold State.testTailgate
  try simp only []
  repeat' split
  all_goals simp

@[simp] theorem State.evade_keeps (d : Direction) :
    (s.evade d).now = s.now ∧ (s.evade d).free = s.free ∧ (s.evade d).phase = s.phase ∧
    (s.evade d).scanStep = s.scanStep ∧ (s.evade d).scanWork = s.scanWork ∧
    (s.evade d).supplyWarning = s.supplyWarning ∧ (s.evade d).clock = s.clock ∧ (s.evade d).cards = s.cards ∧
    (s.evade d).check = s.check ∧ (s.evade d).recovery = s.recovery ∧ (s.evade d).fare = s.fare ∧
    (s.evade d).aisle = s.aisle ∧ (s.evade d).drive = s.drive ∧ (s.evade d).store = s.store ∧
    (s.evade d).station = s.station ∧ (s.evade d).loader = s.loader ∧ (s.evade d).settings = s.settings ∧
    (s.evade d).pending = s.pending := by
  unfold State.evade
  try simp only []
  repeat' split
  all_goals simp

@[simp] theorem State.completePassage_keeps (d : Direction) (t : Option Nat) :
    (s.completePassage d t).now = s.now ∧ (s.completePassage d t).free = s.free ∧
    (s.completePassage d t).phase = s.phase ∧ (s.completePassage d t).scanStep = s.scanStep ∧
    (s.completePassage d t).scanWork = s.scanWork ∧ (s.completePassage d t).supplyWarning = s.supplyWarning ∧
    (s.completePassage d t).clock = s.clock ∧ (s.completePassage d t).cards = s.cards ∧
    (s.completePassage d t).check = s.check ∧ (s.completePassage d t).recovery = s.recovery ∧
    (s.completePassage d t).fare = s.fare ∧ (s.completePassage d t).drive = s.drive ∧
    (s.completePassage d t).store = s.store ∧ (s.completePassage d t).station = s.station ∧
    (s.completePassage d t).loader = s.loader ∧ (s.completePassage d t).settings = s.settings ∧
    (s.completePassage d t).pending = s.pending ∧ (s.completePassage d t).aisle.mode = s.aisle.mode ∧
    (s.completePassage d t).aisle.returnMode = s.aisle.returnMode ∧
    (s.completePassage d t).aisle.hostEmergency = s.aisle.hostEmergency ∧
    (s.completePassage d t).aisle.emergencyLine = s.aisle.emergencyLine ∧
    (s.completePassage d t).aisle.direction = s.aisle.direction ∧
    (s.completePassage d t).aisle.pendingDirection = s.aisle.pendingDirection ∧
    (s.completePassage d t).aisle.beamA = s.aisle.beamA ∧ (s.completePassage d t).aisle.beamS = s.aisle.beamS ∧
    (s.completePassage d t).aisle.beamB = s.aisle.beamB ∧ (s.completePassage d t).aisle.claim = s.aisle.claim ∧
    (s.completePassage d t).aisle.phase = s.aisle.phase ∧ (s.completePassage d t).aisle.target = s.aisle.target := by
  unfold State.completePassage
  try simp only []
  repeat' split
  all_goals simp

@[simp] theorem State.trackEffect_keeps (e : TrackEffect) (d : Direction) :
    (s.trackEffect e d).now = s.now ∧ (s.trackEffect e d).free = s.free ∧ (s.trackEffect e d).phase = s.phase ∧
    (s.trackEffect e d).scanStep = s.scanStep ∧ (s.trackEffect e d).scanWork = s.scanWork ∧
    (s.trackEffect e d).supplyWarning = s.supplyWarning ∧ (s.trackEffect e d).clock = s.clock ∧
    (s.trackEffect e d).cards = s.cards ∧ (s.trackEffect e d).check = s.check ∧
    (s.trackEffect e d).recovery = s.recovery ∧ (s.trackEffect e d).fare = s.fare ∧
    (s.trackEffect e d).drive = s.drive ∧ (s.trackEffect e d).store = s.store ∧
    (s.trackEffect e d).station = s.station ∧ (s.trackEffect e d).loader = s.loader ∧
    (s.trackEffect e d).settings = s.settings ∧ (s.trackEffect e d).pending = s.pending ∧
    (s.trackEffect e d).aisle.mode = s.aisle.mode ∧ (s.trackEffect e d).aisle.returnMode = s.aisle.returnMode ∧
    (s.trackEffect e d).aisle.hostEmergency = s.aisle.hostEmergency ∧
    (s.trackEffect e d).aisle.emergencyLine = s.aisle.emergencyLine ∧
    (s.trackEffect e d).aisle.direction = s.aisle.direction ∧
    (s.trackEffect e d).aisle.pendingDirection = s.aisle.pendingDirection ∧
    (s.trackEffect e d).aisle.beamA = s.aisle.beamA ∧ (s.trackEffect e d).aisle.beamS = s.aisle.beamS ∧
    (s.trackEffect e d).aisle.beamB = s.aisle.beamB ∧ (s.trackEffect e d).aisle.phase = s.aisle.phase ∧
    (s.trackEffect e d).aisle.target = s.aisle.target := by
  unfold State.trackEffect
  try simp only []
  repeat' split
  all_goals simp

@[simp] theorem State.track_keeps (a b : Bool) :
    (s.track a b).now = s.now ∧ (s.track a b).free = s.free ∧ (s.track a b).phase = s.phase ∧
    (s.track a b).scanStep = s.scanStep ∧ (s.track a b).scanWork = s.scanWork ∧
    (s.track a b).supplyWarning = s.supplyWarning ∧ (s.track a b).clock = s.clock ∧ (s.track a b).cards = s.cards ∧
    (s.track a b).check = s.check ∧ (s.track a b).recovery = s.recovery ∧ (s.track a b).fare = s.fare ∧
    (s.track a b).store = s.store ∧ (s.track a b).station = s.station ∧ (s.track a b).loader = s.loader ∧
    (s.track a b).settings = s.settings ∧ (s.track a b).pending = s.pending ∧
    (s.track a b).aisle.mode = s.aisle.mode ∧ (s.track a b).aisle.returnMode = s.aisle.returnMode ∧
    (s.track a b).aisle.hostEmergency = s.aisle.hostEmergency ∧
    (s.track a b).aisle.emergencyLine = s.aisle.emergencyLine ∧ (s.track a b).aisle.direction = s.aisle.direction ∧
    (s.track a b).aisle.pendingDirection = s.aisle.pendingDirection ∧ (s.track a b).aisle.beamA = s.aisle.beamA ∧
    (s.track a b).aisle.beamS = s.aisle.beamS ∧ (s.track a b).aisle.beamB = s.aisle.beamB := by
  unfold State.track
  try simp only []
  repeat' split
  all_goals simp

@[simp] theorem State.safetyBeam_keeps (b : Bool) :
    (s.safetyBeam b).now = s.now ∧ (s.safetyBeam b).free = s.free ∧ (s.safetyBeam b).phase = s.phase ∧
    (s.safetyBeam b).scanStep = s.scanStep ∧ (s.safetyBeam b).scanWork = s.scanWork ∧
    (s.safetyBeam b).supplyWarning = s.supplyWarning ∧ (s.safetyBeam b).clock = s.clock ∧
    (s.safetyBeam b).cards = s.cards ∧ (s.safetyBeam b).check = s.check ∧ (s.safetyBeam b).recovery = s.recovery ∧
    (s.safetyBeam b).fare = s.fare ∧ (s.safetyBeam b).journal = s.journal ∧ (s.safetyBeam b).store = s.store ∧
    (s.safetyBeam b).station = s.station ∧ (s.safetyBeam b).loader = s.loader ∧
    (s.safetyBeam b).settings = s.settings ∧ (s.safetyBeam b).pending = s.pending ∧
    (s.safetyBeam b).aisle.mode = s.aisle.mode ∧ (s.safetyBeam b).aisle.returnMode = s.aisle.returnMode ∧
    (s.safetyBeam b).aisle.hostEmergency = s.aisle.hostEmergency ∧
    (s.safetyBeam b).aisle.emergencyLine = s.aisle.emergencyLine ∧
    (s.safetyBeam b).aisle.direction = s.aisle.direction ∧
    (s.safetyBeam b).aisle.pendingDirection = s.aisle.pendingDirection ∧
    (s.safetyBeam b).aisle.beamA = s.aisle.beamA ∧ (s.safetyBeam b).aisle.beamS = s.aisle.beamS ∧
    (s.safetyBeam b).aisle.beamB = s.aisle.beamB ∧ (s.safetyBeam b).aisle.claim = s.aisle.claim ∧
    (s.safetyBeam b).aisle.credits = s.aisle.credits ∧ (s.safetyBeam b).aisle.phase = s.aisle.phase := by
  unfold State.safetyBeam
  try simp only []
  repeat' split
  all_goals simp

@[simp] theorem State.search_keeps (n : Nat) :
    (s.search n).now = s.now ∧ (s.search n).free = s.free ∧ (s.search n).phase = s.phase ∧
    (s.search n).scanStep = s.scanStep ∧ (s.search n).scanWork = s.scanWork ∧
    (s.search n).supplyWarning = s.supplyWarning ∧ (s.search n).clock = s.clock ∧ (s.search n).link = s.link ∧
    (s.search n).cards = s.cards ∧ (s.search n).recovery = s.recovery ∧ (s.search n).fare = s.fare ∧
    (s.search n).aisle = s.aisle ∧ (s.search n).drive = s.drive ∧ (s.search n).journal = s.journal ∧
    (s.search n).store = s.store ∧ (s.search n).station = s.station ∧ (s.search n).loader = s.loader ∧
    (s.search n).settings = s.settings ∧ (s.search n).pending = s.pending := by
  unfold State.search
  try simp only []
  repeat' split
  all_goals simp

@[simp] theorem State.detect_keeps (n : Nat) (k : Criterion) (e : EventKind) :
    (s.detect n k e).now = s.now ∧ (s.detect n k e).free = s.free ∧ (s.detect n k e).phase = s.phase ∧
    (s.detect n k e).scanStep = s.scanStep ∧ (s.detect n k e).scanWork = s.scanWork ∧
    (s.detect n k e).supplyWarning = s.supplyWarning ∧ (s.detect n k e).clock = s.clock ∧
    (s.detect n k e).cards = s.cards ∧ (s.detect n k e).recovery = s.recovery ∧ (s.detect n k e).fare = s.fare ∧
    (s.detect n k e).aisle = s.aisle ∧ (s.detect n k e).drive = s.drive ∧ (s.detect n k e).journal = s.journal ∧
    (s.detect n k e).station = s.station ∧ (s.detect n k e).loader = s.loader ∧
    (s.detect n k e).settings = s.settings ∧ (s.detect n k e).pending = s.pending ∧
    (s.detect n k e).store.memory = s.store.memory ∧ (s.detect n k e).store.op = s.store.op := by
  unfold State.detect
  try simp only []
  repeat' split
  all_goals simp

@[simp] theorem State.localSighting_keeps (n c : Nat) (w : Stamp) (d : Direction) :
    (s.localSighting n c w d).now = s.now ∧ (s.localSighting n c w d).free = s.free ∧
    (s.localSighting n c w d).phase = s.phase ∧ (s.localSighting n c w d).scanStep = s.scanStep ∧
    (s.localSighting n c w d).scanWork = s.scanWork ∧ (s.localSighting n c w d).supplyWarning = s.supplyWarning ∧
    (s.localSighting n c w d).clock = s.clock ∧ (s.localSighting n c w d).cards = s.cards ∧
    (s.localSighting n c w d).recovery = s.recovery ∧ (s.localSighting n c w d).fare = s.fare ∧
    (s.localSighting n c w d).aisle = s.aisle ∧ (s.localSighting n c w d).drive = s.drive ∧
    (s.localSighting n c w d).journal = s.journal ∧ (s.localSighting n c w d).station = s.station ∧
    (s.localSighting n c w d).loader = s.loader ∧ (s.localSighting n c w d).settings = s.settings ∧
    (s.localSighting n c w d).pending = s.pending ∧ (s.localSighting n c w d).store.memory = s.store.memory ∧
    (s.localSighting n c w d).store.op = s.store.op := by
  unfold State.localSighting
  try simp only []
  repeat' split
  all_goals simp

@[simp] theorem State.applyPeer_keeps (p : PeerSighting) (d : Direction) :
    (s.applyPeer p d).now = s.now ∧ (s.applyPeer p d).free = s.free ∧ (s.applyPeer p d).phase = s.phase ∧
    (s.applyPeer p d).scanStep = s.scanStep ∧ (s.applyPeer p d).scanWork = s.scanWork ∧
    (s.applyPeer p d).supplyWarning = s.supplyWarning ∧ (s.applyPeer p d).clock = s.clock ∧
    (s.applyPeer p d).cards = s.cards ∧ (s.applyPeer p d).recovery = s.recovery ∧ (s.applyPeer p d).fare = s.fare ∧
    (s.applyPeer p d).aisle = s.aisle ∧ (s.applyPeer p d).drive = s.drive ∧ (s.applyPeer p d).journal = s.journal ∧
    (s.applyPeer p d).station = s.station ∧ (s.applyPeer p d).loader = s.loader ∧
    (s.applyPeer p d).settings = s.settings ∧ (s.applyPeer p d).pending = s.pending ∧
    (s.applyPeer p d).store.memory = s.store.memory ∧ (s.applyPeer p d).store.op = s.store.op := by
  unfold State.applyPeer
  try simp only []
  repeat' split
  all_goals simp

@[simp] theorem State.sendAuthenticate_keeps (r : Reader) :
    (s.sendAuthenticate r).now = s.now ∧ (s.sendAuthenticate r).phase = s.phase ∧
    (s.sendAuthenticate r).scanStep = s.scanStep ∧ (s.sendAuthenticate r).scanWork = s.scanWork ∧
    (s.sendAuthenticate r).supplyWarning = s.supplyWarning ∧ (s.sendAuthenticate r).clock = s.clock ∧
    (s.sendAuthenticate r).link = s.link ∧ (s.sendAuthenticate r).check = s.check ∧
    (s.sendAuthenticate r).recovery = s.recovery ∧ (s.sendAuthenticate r).fare = s.fare ∧
    (s.sendAuthenticate r).aisle = s.aisle ∧ (s.sendAuthenticate r).drive = s.drive ∧
    (s.sendAuthenticate r).journal = s.journal ∧ (s.sendAuthenticate r).store = s.store ∧
    (s.sendAuthenticate r).station = s.station ∧ (s.sendAuthenticate r).loader = s.loader ∧
    (s.sendAuthenticate r).settings = s.settings ∧ (s.sendAuthenticate r).pending = s.pending := by
  unfold State.sendAuthenticate
  try simp only []
  repeat' split
  all_goals simp

@[simp] theorem State.finish_keeps (r : Reader) (o : CardOutcome) (c : Nat) (b : Option Int) :
    (s.finish r o c b).now = s.now ∧ (s.finish r o c b).free = s.free ∧ (s.finish r o c b).phase = s.phase ∧
    (s.finish r o c b).scanStep = s.scanStep ∧ (s.finish r o c b).scanWork = s.scanWork ∧
    (s.finish r o c b).supplyWarning = s.supplyWarning ∧ (s.finish r o c b).clock = s.clock ∧
    (s.finish r o c b).check = s.check ∧ (s.finish r o c b).recovery = s.recovery ∧
    (s.finish r o c b).aisle = s.aisle ∧ (s.finish r o c b).drive = s.drive ∧ (s.finish r o c b).journal = s.journal ∧
    (s.finish r o c b).store.memory = s.store.memory ∧ (s.finish r o c b).store.op = s.store.op ∧
    (s.finish r o c b).station = s.station ∧ (s.finish r o c b).settings = s.settings ∧
    (s.finish r o c b).pending = s.pending := by
  unfold State.finish
  try simp only []
  repeat' split
  all_goals simp

@[simp] theorem State.endSession_keeps (r : Reader) (o : CardOutcome) :
    (s.endSession r o).now = s.now ∧ (s.endSession r o).free = s.free ∧ (s.endSession r o).phase = s.phase ∧
    (s.endSession r o).scanStep = s.scanStep ∧ (s.endSession r o).scanWork = s.scanWork ∧
    (s.endSession r o).supplyWarning = s.supplyWarning ∧ (s.endSession r o).clock = s.clock ∧
    (s.endSession r o).check = s.check ∧ (s.endSession r o).recovery = s.recovery ∧
    (s.endSession r o).aisle = s.aisle ∧ (s.endSession r o).drive = s.drive ∧ (s.endSession r o).journal = s.journal ∧
    (s.endSession r o).store.memory = s.store.memory ∧ (s.endSession r o).store.op = s.store.op ∧
    (s.endSession r o).station = s.station ∧ (s.endSession r o).settings = s.settings ∧
    (s.endSession r o).pending = s.pending := by
  unfold State.endSession
  try simp only []
  repeat' split
  all_goals simp

/-- The end of a session that is not in its decision interval activates no table. -/
theorem State.endSession_outside (r : Reader) (o : CardOutcome) (h : (s.session r).deciding = false) :
    (s.endSession r o).fare = s.fare ∧ (s.endSession r o).loader = s.loader ∧ (s.endSession r o).store = s.store := by
  simp [State.endSession, State.finish, h]

/-- A session that waits for an answer before its decision is not in its decision interval. -/
theorem Session.deciding_early (x : Session) (h : x.state = .identifying ∨ x.state = .authenticating ∨ x.state = .reading) :
    x.deciding = false := by
  obtain h | h | h := h <;> simp [Session.deciding, h]

@[simp] theorem State.endHoldoff_keeps (r : Reader) :
    (s.endHoldoff r).now = s.now ∧ (s.endHoldoff r).free = s.free ∧ (s.endHoldoff r).phase = s.phase ∧
    (s.endHoldoff r).scanStep = s.scanStep ∧ (s.endHoldoff r).scanWork = s.scanWork ∧
    (s.endHoldoff r).supplyWarning = s.supplyWarning ∧ (s.endHoldoff r).clock = s.clock ∧
    (s.endHoldoff r).link = s.link ∧ (s.endHoldoff r).check = s.check ∧ (s.endHoldoff r).recovery = s.recovery ∧
    (s.endHoldoff r).fare = s.fare ∧ (s.endHoldoff r).aisle = s.aisle ∧ (s.endHoldoff r).drive = s.drive ∧
    (s.endHoldoff r).journal = s.journal ∧ (s.endHoldoff r).store = s.store ∧ (s.endHoldoff r).station = s.station ∧
    (s.endHoldoff r).loader = s.loader ∧ (s.endHoldoff r).settings = s.settings ∧
    (s.endHoldoff r).pending = s.pending := by
  unfold State.endHoldoff
  try simp only []
  repeat' split
  all_goals simp

@[simp] theorem State.refuse_keeps (r : Reader) (o : CardOutcome) :
    (s.refuse r o).now = s.now ∧ (s.refuse r o).free = s.free ∧ (s.refuse r o).phase = s.phase ∧
    (s.refuse r o).scanStep = s.scanStep ∧ (s.refuse r o).scanWork = s.scanWork ∧
    (s.refuse r o).supplyWarning = s.supplyWarning ∧ (s.refuse r o).clock = s.clock ∧ (s.refuse r o).check = s.check ∧
    (s.refuse r o).recovery = s.recovery ∧ (s.refuse r o).aisle = s.aisle ∧ (s.refuse r o).drive = s.drive ∧
    (s.refuse r o).store.memory = s.store.memory ∧ (s.refuse r o).store.op = s.store.op ∧
    (s.refuse r o).station = s.station ∧ (s.refuse r o).settings = s.settings ∧ (s.refuse r o).pending = s.pending := by
  unfold State.refuse
  try simp only []
  repeat' split
  all_goals simp

@[simp] theorem State.refuseFare_keeps (r : Reader) (o : CardOutcome) (f c d : Nat) :
    (s.refuseFare r o f c d).now = s.now ∧ (s.refuseFare r o f c d).free = s.free ∧
    (s.refuseFare r o f c d).phase = s.phase ∧ (s.refuseFare r o f c d).scanStep = s.scanStep ∧
    (s.refuseFare r o f c d).scanWork = s.scanWork ∧ (s.refuseFare r o f c d).supplyWarning = s.supplyWarning ∧
    (s.refuseFare r o f c d).clock = s.clock ∧ (s.refuseFare r o f c d).check = s.check ∧
    (s.refuseFare r o f c d).recovery = s.recovery ∧ (s.refuseFare r o f c d).aisle = s.aisle ∧
    (s.refuseFare r o f c d).drive = s.drive ∧ (s.refuseFare r o f c d).store.memory = s.store.memory ∧
    (s.refuseFare r o f c d).store.op = s.store.op ∧ (s.refuseFare r o f c d).station = s.station ∧
    (s.refuseFare r o f c d).settings = s.settings ∧ (s.refuseFare r o f c d).pending = s.pending := by
  unfold State.refuseFare
  try simp only []
  repeat' split
  all_goals simp

@[simp] theorem State.enterIntent_keeps (r : Reader) (rec : JournalRecord) :
    (s.enterIntent r rec).now = s.now ∧ (s.enterIntent r rec).free = s.free ∧ (s.enterIntent r rec).phase = s.phase ∧
    (s.enterIntent r rec).scanStep = s.scanStep ∧ (s.enterIntent r rec).scanWork = s.scanWork ∧
    (s.enterIntent r rec).supplyWarning = s.supplyWarning ∧ (s.enterIntent r rec).clock = s.clock ∧
    (s.enterIntent r rec).check = s.check ∧ (s.enterIntent r rec).recovery = s.recovery ∧
    (s.enterIntent r rec).fare = s.fare ∧ (s.enterIntent r rec).drive = s.drive ∧
    (s.enterIntent r rec).store = s.store ∧ (s.enterIntent r rec).station = s.station ∧
    (s.enterIntent r rec).loader = s.loader ∧ (s.enterIntent r rec).settings = s.settings ∧
    (s.enterIntent r rec).pending = s.pending ∧ (s.enterIntent r rec).aisle.mode = s.aisle.mode ∧
    (s.enterIntent r rec).aisle.returnMode = s.aisle.returnMode ∧
    (s.enterIntent r rec).aisle.hostEmergency = s.aisle.hostEmergency ∧
    (s.enterIntent r rec).aisle.emergencyLine = s.aisle.emergencyLine ∧
    (s.enterIntent r rec).aisle.direction = s.aisle.direction ∧
    (s.enterIntent r rec).aisle.pendingDirection = s.aisle.pendingDirection ∧
    (s.enterIntent r rec).aisle.beamA = s.aisle.beamA ∧ (s.enterIntent r rec).aisle.beamS = s.aisle.beamS ∧
    (s.enterIntent r rec).aisle.beamB = s.aisle.beamB ∧ (s.enterIntent r rec).aisle.claim = s.aisle.claim ∧
    (s.enterIntent r rec).aisle.phase = s.aisle.phase ∧ (s.enterIntent r rec).aisle.target = s.aisle.target := by
  unfold State.enterIntent
  try simp only []
  repeat' split
  all_goals simp

@[simp] theorem State.awaitIntent_keeps (r : Reader) (rec : JournalRecord) :
    (s.awaitIntent r rec).now = s.now ∧ (s.awaitIntent r rec).free = s.free ∧ (s.awaitIntent r rec).phase = s.phase ∧
    (s.awaitIntent r rec).scanStep = s.scanStep ∧ (s.awaitIntent r rec).scanWork = s.scanWork ∧
    (s.awaitIntent r rec).supplyWarning = s.supplyWarning ∧ (s.awaitIntent r rec).clock = s.clock ∧
    (s.awaitIntent r rec).check = s.check ∧ (s.awaitIntent r rec).recovery = s.recovery ∧
    (s.awaitIntent r rec).fare = s.fare ∧ (s.awaitIntent r rec).drive = s.drive ∧
    (s.awaitIntent r rec).store = s.store ∧ (s.awaitIntent r rec).station = s.station ∧
    (s.awaitIntent r rec).loader = s.loader ∧ (s.awaitIntent r rec).settings = s.settings ∧
    (s.awaitIntent r rec).pending = s.pending ∧ (s.awaitIntent r rec).aisle.mode = s.aisle.mode ∧
    (s.awaitIntent r rec).aisle.returnMode = s.aisle.returnMode ∧
    (s.awaitIntent r rec).aisle.hostEmergency = s.aisle.hostEmergency ∧
    (s.awaitIntent r rec).aisle.emergencyLine = s.aisle.emergencyLine ∧
    (s.awaitIntent r rec).aisle.direction = s.aisle.direction ∧
    (s.awaitIntent r rec).aisle.pendingDirection = s.aisle.pendingDirection ∧
    (s.awaitIntent r rec).aisle.beamA = s.aisle.beamA ∧ (s.awaitIntent r rec).aisle.beamS = s.aisle.beamS ∧
    (s.awaitIntent r rec).aisle.beamB = s.aisle.beamB ∧ (s.awaitIntent r rec).aisle.claim = s.aisle.claim ∧
    (s.awaitIntent r rec).aisle.phase = s.aisle.phase ∧ (s.awaitIntent r rec).aisle.target = s.aisle.target := by
  unfold State.awaitIntent
  try simp only []
  repeat' split
  all_goals simp

@[simp] theorem State.blockCard_keeps (r : Reader) (o : CardOutcome) :
    (s.blockCard r o).now = s.now ∧ (s.blockCard r o).free = s.free ∧ (s.blockCard r o).phase = s.phase ∧
    (s.blockCard r o).scanStep = s.scanStep ∧ (s.blockCard r o).scanWork = s.scanWork ∧
    (s.blockCard r o).supplyWarning = s.supplyWarning ∧ (s.blockCard r o).clock = s.clock ∧
    (s.blockCard r o).check = s.check ∧ (s.blockCard r o).recovery = s.recovery ∧ (s.blockCard r o).fare = s.fare ∧
    (s.blockCard r o).drive = s.drive ∧ (s.blockCard r o).store = s.store ∧ (s.blockCard r o).station = s.station ∧
    (s.blockCard r o).loader = s.loader ∧ (s.blockCard r o).settings = s.settings ∧
    (s.blockCard r o).pending = s.pending ∧ (s.blockCard r o).aisle.mode = s.aisle.mode ∧
    (s.blockCard r o).aisle.returnMode = s.aisle.returnMode ∧
    (s.blockCard r o).aisle.hostEmergency = s.aisle.hostEmergency ∧
    (s.blockCard r o).aisle.emergencyLine = s.aisle.emergencyLine ∧
    (s.blockCard r o).aisle.direction = s.aisle.direction ∧
    (s.blockCard r o).aisle.pendingDirection = s.aisle.pendingDirection ∧
    (s.blockCard r o).aisle.beamA = s.aisle.beamA ∧ (s.blockCard r o).aisle.beamS = s.aisle.beamS ∧
    (s.blockCard r o).aisle.beamB = s.aisle.beamB ∧ (s.blockCard r o).aisle.claim = s.aisle.claim ∧
    (s.blockCard r o).aisle.phase = s.aisle.phase ∧ (s.blockCard r o).aisle.target = s.aisle.target := by
  unfold State.blockCard
  try simp only []
  repeat' split
  all_goals simp

@[simp] theorem State.accept_keeps (r : Reader) (d : Decision) :
    (s.accept r d).now = s.now ∧ (s.accept r d).free = s.free ∧ (s.accept r d).phase = s.phase ∧
    (s.accept r d).scanStep = s.scanStep ∧ (s.accept r d).scanWork = s.scanWork ∧
    (s.accept r d).supplyWarning = s.supplyWarning ∧ (s.accept r d).clock = s.clock ∧ (s.accept r d).check = s.check ∧
    (s.accept r d).recovery = s.recovery ∧ (s.accept r d).store.memory = s.store.memory ∧
    (s.accept r d).store.op = s.store.op ∧ (s.accept r d).station = s.station ∧ (s.accept r d).settings = s.settings ∧
    (s.accept r d).pending = s.pending ∧ (s.accept r d).aisle.mode = s.aisle.mode ∧
    (s.accept r d).aisle.returnMode = s.aisle.returnMode ∧
    (s.accept r d).aisle.hostEmergency = s.aisle.hostEmergency ∧
    (s.accept r d).aisle.emergencyLine = s.aisle.emergencyLine ∧ (s.accept r d).aisle.direction = s.aisle.direction ∧
    (s.accept r d).aisle.pendingDirection = s.aisle.pendingDirection ∧ (s.accept r d).aisle.beamA = s.aisle.beamA ∧
    (s.accept r d).aisle.beamS = s.aisle.beamS ∧ (s.accept r d).aisle.beamB = s.aisle.beamB ∧
    (s.accept r d).aisle.phase = s.aisle.phase := by
  unfold State.accept
  try simp only []
  repeat' split
  all_goals simp

@[simp] theorem State.decideFare_keeps (r : Reader) (c : CardId) (i : CardImage) :
    (s.decideFare r c i).now = s.now ∧ (s.decideFare r c i).free = s.free ∧ (s.decideFare r c i).phase = s.phase ∧
    (s.decideFare r c i).scanStep = s.scanStep ∧ (s.decideFare r c i).scanWork = s.scanWork ∧
    (s.decideFare r c i).supplyWarning = s.supplyWarning ∧ (s.decideFare r c i).clock = s.clock ∧
    (s.decideFare r c i).check = s.check ∧ (s.decideFare r c i).recovery = s.recovery ∧
    (s.decideFare r c i).store.memory = s.store.memory ∧ (s.decideFare r c i).store.op = s.store.op ∧
    (s.decideFare r c i).station = s.station ∧ (s.decideFare r c i).settings = s.settings ∧
    (s.decideFare r c i).pending = s.pending ∧ (s.decideFare r c i).aisle.mode = s.aisle.mode ∧
    (s.decideFare r c i).aisle.returnMode = s.aisle.returnMode ∧
    (s.decideFare r c i).aisle.hostEmergency = s.aisle.hostEmergency ∧
    (s.decideFare r c i).aisle.emergencyLine = s.aisle.emergencyLine ∧
    (s.decideFare r c i).aisle.direction = s.aisle.direction ∧
    (s.decideFare r c i).aisle.pendingDirection = s.aisle.pendingDirection ∧
    (s.decideFare r c i).aisle.beamA = s.aisle.beamA ∧ (s.decideFare r c i).aisle.beamS = s.aisle.beamS ∧
    (s.decideFare r c i).aisle.beamB = s.aisle.beamB ∧ (s.decideFare r c i).aisle.phase = s.aisle.phase := by
  unfold State.decideFare
  try simp only []
  repeat' split
  all_goals simp

@[simp] theorem State.screenAndDecide_keeps (r : Reader) (c : CardId) (i : CardImage) :
    (s.screenAndDecide r c i).now = s.now ∧ (s.screenAndDecide r c i).free = s.free ∧
    (s.screenAndDecide r c i).phase = s.phase ∧ (s.screenAndDecide r c i).scanStep = s.scanStep ∧
    (s.screenAndDecide r c i).scanWork = s.scanWork ∧ (s.screenAndDecide r c i).supplyWarning = s.supplyWarning ∧
    (s.screenAndDecide r c i).clock = s.clock ∧ (s.screenAndDecide r c i).recovery = s.recovery ∧
    (s.screenAndDecide r c i).station = s.station ∧ (s.screenAndDecide r c i).settings = s.settings ∧
    (s.screenAndDecide r c i).pending = s.pending ∧ (s.screenAndDecide r c i).aisle.mode = s.aisle.mode ∧
    (s.screenAndDecide r c i).aisle.returnMode = s.aisle.returnMode ∧
    (s.screenAndDecide r c i).aisle.hostEmergency = s.aisle.hostEmergency ∧
    (s.screenAndDecide r c i).aisle.emergencyLine = s.aisle.emergencyLine ∧
    (s.screenAndDecide r c i).aisle.direction = s.aisle.direction ∧
    (s.screenAndDecide r c i).aisle.pendingDirection = s.aisle.pendingDirection ∧
    (s.screenAndDecide r c i).aisle.beamA = s.aisle.beamA ∧ (s.screenAndDecide r c i).aisle.beamS = s.aisle.beamS ∧
    (s.screenAndDecide r c i).aisle.beamB = s.aisle.beamB ∧ (s.screenAndDecide r c i).aisle.phase = s.aisle.phase ∧
    (s.screenAndDecide r c i).store.memory = s.store.memory ∧ (s.screenAndDecide r c i).store.op = s.store.op := by
  unfold State.screenAndDecide
  try simp only []
  repeat' split
  all_goals simp

@[simp] theorem State.settleDone_keeps (e : RecoveryEntry) :
    (s.settleDone e).now = s.now ∧ (s.settleDone e).free = s.free ∧ (s.settleDone e).phase = s.phase ∧
    (s.settleDone e).scanStep = s.scanStep ∧ (s.settleDone e).scanWork = s.scanWork ∧
    (s.settleDone e).supplyWarning = s.supplyWarning ∧ (s.settleDone e).clock = s.clock ∧
    (s.settleDone e).cards = s.cards ∧ (s.settleDone e).fare = s.fare ∧ (s.settleDone e).aisle = s.aisle ∧
    (s.settleDone e).drive = s.drive ∧ (s.settleDone e).journal = s.journal ∧ (s.settleDone e).station = s.station ∧
    (s.settleDone e).loader = s.loader ∧ (s.settleDone e).settings = s.settings ∧
    (s.settleDone e).pending = s.pending ∧ (s.settleDone e).store.memory = s.store.memory ∧
    (s.settleDone e).store.op = s.store.op := by
  unfold State.settleDone
  try simp only []
  repeat' split
  all_goals simp

@[simp] theorem State.honour_keeps (r : Reader) (c : CardId) (i : CardImage) (e : RecoveryEntry) :
    (s.honour r c i e).now = s.now ∧ (s.honour r c i e).free = s.free ∧ (s.honour r c i e).phase = s.phase ∧
    (s.honour r c i e).scanStep = s.scanStep ∧ (s.honour r c i e).scanWork = s.scanWork ∧
    (s.honour r c i e).supplyWarning = s.supplyWarning ∧ (s.honour r c i e).clock = s.clock ∧
    (s.honour r c i e).station = s.station ∧ (s.honour r c i e).settings = s.settings ∧
    (s.honour r c i e).pending = s.pending ∧ (s.honour r c i e).aisle.mode = s.aisle.mode ∧
    (s.honour r c i e).aisle.returnMode = s.aisle.returnMode ∧
    (s.honour r c i e).aisle.hostEmergency = s.aisle.hostEmergency ∧
    (s.honour r c i e).aisle.emergencyLine = s.aisle.emergencyLine ∧
    (s.honour r c i e).aisle.direction = s.aisle.direction ∧
    (s.honour r c i e).aisle.pendingDirection = s.aisle.pendingDirection ∧
    (s.honour r c i e).aisle.beamA = s.aisle.beamA ∧ (s.honour r c i e).aisle.beamS = s.aisle.beamS ∧
    (s.honour r c i e).aisle.beamB = s.aisle.beamB ∧ (s.honour r c i e).aisle.phase = s.aisle.phase ∧
    (s.honour r c i e).store.memory = s.store.memory ∧ (s.honour r c i e).store.op = s.store.op := by
  unfold State.honour
  try simp only []
  repeat' split
  all_goals simp

@[simp] theorem State.checkRecovery_keeps (r : Reader) (c : CardId) (i : CardImage) :
    (s.checkRecovery r c i).now = s.now ∧ (s.checkRecovery r c i).free = s.free ∧
    (s.checkRecovery r c i).phase = s.phase ∧ (s.checkRecovery r c i).scanStep = s.scanStep ∧
    (s.checkRecovery r c i).scanWork = s.scanWork ∧ (s.checkRecovery r c i).supplyWarning = s.supplyWarning ∧
    (s.checkRecovery r c i).clock = s.clock ∧ (s.checkRecovery r c i).station = s.station ∧
    (s.checkRecovery r c i).settings = s.settings ∧ (s.checkRecovery r c i).pending = s.pending ∧
    (s.checkRecovery r c i).aisle.mode = s.aisle.mode ∧
    (s.checkRecovery r c i).aisle.returnMode = s.aisle.returnMode ∧
    (s.checkRecovery r c i).aisle.hostEmergency = s.aisle.hostEmergency ∧
    (s.checkRecovery r c i).aisle.emergencyLine = s.aisle.emergencyLine ∧
    (s.checkRecovery r c i).aisle.direction = s.aisle.direction ∧
    (s.checkRecovery r c i).aisle.pendingDirection = s.aisle.pendingDirection ∧
    (s.checkRecovery r c i).aisle.beamA = s.aisle.beamA ∧ (s.checkRecovery r c i).aisle.beamS = s.aisle.beamS ∧
    (s.checkRecovery r c i).aisle.beamB = s.aisle.beamB ∧ (s.checkRecovery r c i).aisle.phase = s.aisle.phase ∧
    (s.checkRecovery r c i).store.memory = s.store.memory ∧ (s.checkRecovery r c i).store.op = s.store.op := by
  unfold State.checkRecovery
  try simp only []
  repeat' split
  all_goals simp

@[simp] theorem State.sendWrite_keeps (r : Reader) :
    (s.sendWrite r).now = s.now ∧ (s.sendWrite r).free = s.free ∧ (s.sendWrite r).phase = s.phase ∧
    (s.sendWrite r).scanStep = s.scanStep ∧ (s.sendWrite r).scanWork = s.scanWork ∧
    (s.sendWrite r).supplyWarning = s.supplyWarning ∧ (s.sendWrite r).clock = s.clock ∧
    (s.sendWrite r).link = s.link ∧ (s.sendWrite r).check = s.check ∧ (s.sendWrite r).recovery = s.recovery ∧
    (s.sendWrite r).fare = s.fare ∧ (s.sendWrite r).aisle = s.aisle ∧ (s.sendWrite r).drive = s.drive ∧
    (s.sendWrite r).journal = s.journal ∧ (s.sendWrite r).store = s.store ∧ (s.sendWrite r).station = s.station ∧
    (s.sendWrite r).loader = s.loader ∧ (s.sendWrite r).settings = s.settings ∧
    (s.sendWrite r).pending = s.pending := by
  unfold State.sendWrite
  try simp only []
  repeat' split
  all_goals simp

@[simp] theorem State.grantCredit_keeps (r : Reader) (d : Decision) :
    (s.grantCredit r d).now = s.now ∧ (s.grantCredit r d).free = s.free ∧ (s.grantCredit r d).phase = s.phase ∧
    (s.grantCredit r d).scanStep = s.scanStep ∧ (s.grantCredit r d).scanWork = s.scanWork ∧
    (s.grantCredit r d).supplyWarning = s.supplyWarning ∧ (s.grantCredit r d).clock = s.clock ∧
    (s.grantCredit r d).cards = s.cards ∧ (s.grantCredit r d).check = s.check ∧
    (s.grantCredit r d).recovery = s.recovery ∧ (s.grantCredit r d).fare = s.fare ∧
    (s.grantCredit r d).store = s.store ∧ (s.grantCredit r d).station = s.station ∧
    (s.grantCredit r d).loader = s.loader ∧ (s.grantCredit r d).settings = s.settings ∧
    (s.grantCredit r d).pending = s.pending ∧ (s.grantCredit r d).aisle.mode = s.aisle.mode ∧
    (s.grantCredit r d).aisle.returnMode = s.aisle.returnMode ∧
    (s.grantCredit r d).aisle.hostEmergency = s.aisle.hostEmergency ∧
    (s.grantCredit r d).aisle.emergencyLine = s.aisle.emergencyLine ∧
    (s.grantCredit r d).aisle.direction = s.aisle.direction ∧
    (s.grantCredit r d).aisle.pendingDirection = s.aisle.pendingDirection ∧
    (s.grantCredit r d).aisle.beamA = s.aisle.beamA ∧ (s.grantCredit r d).aisle.beamS = s.aisle.beamS ∧
    (s.grantCredit r d).aisle.beamB = s.aisle.beamB ∧ (s.grantCredit r d).aisle.phase = s.aisle.phase ∧
    (s.grantCredit r d).aisle.claim = s.aisle.claim := by
  unfold State.grantCredit
  try simp only []
  repeat' split
  all_goals simp

@[simp] theorem State.completeWrite_keeps (r : Reader) :
    (s.completeWrite r).now = s.now ∧ (s.completeWrite r).free = s.free ∧ (s.completeWrite r).phase = s.phase ∧
    (s.completeWrite r).scanStep = s.scanStep ∧ (s.completeWrite r).scanWork = s.scanWork ∧
    (s.completeWrite r).supplyWarning = s.supplyWarning ∧ (s.completeWrite r).clock = s.clock ∧
    (s.completeWrite r).recovery = s.recovery ∧ (s.completeWrite r).station = s.station ∧
    (s.completeWrite r).settings = s.settings ∧ (s.completeWrite r).pending = s.pending ∧
    (s.completeWrite r).aisle.mode = s.aisle.mode ∧ (s.completeWrite r).aisle.returnMode = s.aisle.returnMode ∧
    (s.completeWrite r).aisle.hostEmergency = s.aisle.hostEmergency ∧
    (s.completeWrite r).aisle.emergencyLine = s.aisle.emergencyLine ∧
    (s.completeWrite r).aisle.direction = s.aisle.direction ∧
    (s.completeWrite r).aisle.pendingDirection = s.aisle.pendingDirection ∧
    (s.completeWrite r).aisle.beamA = s.aisle.beamA ∧ (s.completeWrite r).aisle.beamS = s.aisle.beamS ∧
    (s.completeWrite r).aisle.beamB = s.aisle.beamB ∧ (s.completeWrite r).aisle.phase = s.aisle.phase ∧
    (s.completeWrite r).aisle.claim = s.aisle.claim ∧ (s.completeWrite r).store.memory = s.store.memory ∧
    (s.completeWrite r).store.op = s.store.op := by
  unfold State.completeWrite
  try simp only []
  repeat' split
  all_goals simp

@[simp] theorem State.voidWrite_keeps (r : Reader) :
    (s.voidWrite r).now = s.now ∧ (s.voidWrite r).free = s.free ∧ (s.voidWrite r).phase = s.phase ∧
    (s.voidWrite r).scanStep = s.scanStep ∧ (s.voidWrite r).scanWork = s.scanWork ∧
    (s.voidWrite r).supplyWarning = s.supplyWarning ∧ (s.voidWrite r).clock = s.clock ∧
    (s.voidWrite r).check = s.check ∧ (s.voidWrite r).recovery = s.recovery ∧ (s.voidWrite r).drive = s.drive ∧
    (s.voidWrite r).store.memory = s.store.memory ∧ (s.voidWrite r).store.op = s.store.op ∧
    (s.voidWrite r).station = s.station ∧ (s.voidWrite r).settings = s.settings ∧
    (s.voidWrite r).pending = s.pending ∧ (s.voidWrite r).aisle.mode = s.aisle.mode ∧
    (s.voidWrite r).aisle.returnMode = s.aisle.returnMode ∧
    (s.voidWrite r).aisle.hostEmergency = s.aisle.hostEmergency ∧
    (s.voidWrite r).aisle.emergencyLine = s.aisle.emergencyLine ∧
    (s.voidWrite r).aisle.direction = s.aisle.direction ∧
    (s.voidWrite r).aisle.pendingDirection = s.aisle.pendingDirection ∧ (s.voidWrite r).aisle.beamA = s.aisle.beamA ∧
    (s.voidWrite r).aisle.beamS = s.aisle.beamS ∧ (s.voidWrite r).aisle.beamB = s.aisle.beamB ∧
    (s.voidWrite r).aisle.phase = s.aisle.phase ∧ (s.voidWrite r).aisle.target = s.aisle.target := by
  unfold State.voidWrite
  try simp only []
  repeat' split
  all_goals simp

@[simp] theorem State.uncertainWrite_keeps (r : Reader) :
    (s.uncertainWrite r).now = s.now ∧ (s.uncertainWrite r).free = s.free ∧ (s.uncertainWrite r).phase = s.phase ∧
    (s.uncertainWrite r).scanStep = s.scanStep ∧ (s.uncertainWrite r).scanWork = s.scanWork ∧
    (s.uncertainWrite r).supplyWarning = s.supplyWarning ∧ (s.uncertainWrite r).clock = s.clock ∧
    (s.uncertainWrite r).check = s.check ∧ (s.uncertainWrite r).recovery = s.recovery ∧
    (s.uncertainWrite r).drive = s.drive ∧ (s.uncertainWrite r).store.memory = s.store.memory ∧
    (s.uncertainWrite r).store.op = s.store.op ∧ (s.uncertainWrite r).station = s.station ∧
    (s.uncertainWrite r).settings = s.settings ∧ (s.uncertainWrite r).pending = s.pending ∧
    (s.uncertainWrite r).aisle.mode = s.aisle.mode ∧ (s.uncertainWrite r).aisle.returnMode = s.aisle.returnMode ∧
    (s.uncertainWrite r).aisle.hostEmergency = s.aisle.hostEmergency ∧
    (s.uncertainWrite r).aisle.emergencyLine = s.aisle.emergencyLine ∧
    (s.uncertainWrite r).aisle.direction = s.aisle.direction ∧
    (s.uncertainWrite r).aisle.pendingDirection = s.aisle.pendingDirection ∧
    (s.uncertainWrite r).aisle.beamA = s.aisle.beamA ∧ (s.uncertainWrite r).aisle.beamS = s.aisle.beamS ∧
    (s.uncertainWrite r).aisle.beamB = s.aisle.beamB ∧ (s.uncertainWrite r).aisle.phase = s.aisle.phase ∧
    (s.uncertainWrite r).aisle.target = s.aisle.target := by
  unfold State.uncertainWrite
  try simp only []
  repeat' split
  all_goals simp

@[simp] theorem State.sendQuery_keeps (r : Reader) :
    (s.sendQuery r).now = s.now ∧ (s.sendQuery r).free = s.free ∧ (s.sendQuery r).phase = s.phase ∧
    (s.sendQuery r).scanStep = s.scanStep ∧ (s.sendQuery r).scanWork = s.scanWork ∧
    (s.sendQuery r).supplyWarning = s.supplyWarning ∧ (s.sendQuery r).clock = s.clock ∧
    (s.sendQuery r).link = s.link ∧ (s.sendQuery r).check = s.check ∧ (s.sendQuery r).recovery = s.recovery ∧
    (s.sendQuery r).fare = s.fare ∧ (s.sendQuery r).aisle = s.aisle ∧ (s.sendQuery r).drive = s.drive ∧
    (s.sendQuery r).journal = s.journal ∧ (s.sendQuery r).store = s.store ∧ (s.sendQuery r).station = s.station ∧
    (s.sendQuery r).loader = s.loader ∧ (s.sendQuery r).settings = s.settings ∧
    (s.sendQuery r).pending = s.pending := by
  unfold State.sendQuery
  try simp only []
  repeat' split
  all_goals simp

@[simp] theorem State.writeAnswered_keeps (r : Reader) (a : WriteReply) :
    (s.writeAnswered r a).now = s.now ∧ (s.writeAnswered r a).free = s.free ∧ (s.writeAnswered r a).phase = s.phase ∧
    (s.writeAnswered r a).scanStep = s.scanStep ∧ (s.writeAnswered r a).scanWork = s.scanWork ∧
    (s.writeAnswered r a).supplyWarning = s.supplyWarning ∧ (s.writeAnswered r a).clock = s.clock ∧
    (s.writeAnswered r a).recovery = s.recovery ∧ (s.writeAnswered r a).station = s.station ∧
    (s.writeAnswered r a).settings = s.settings ∧ (s.writeAnswered r a).pending = s.pending ∧
    (s.writeAnswered r a).aisle.mode = s.aisle.mode ∧ (s.writeAnswered r a).aisle.returnMode = s.aisle.returnMode ∧
    (s.writeAnswered r a).aisle.hostEmergency = s.aisle.hostEmergency ∧
    (s.writeAnswered r a).aisle.emergencyLine = s.aisle.emergencyLine ∧
    (s.writeAnswered r a).aisle.direction = s.aisle.direction ∧
    (s.writeAnswered r a).aisle.pendingDirection = s.aisle.pendingDirection ∧
    (s.writeAnswered r a).aisle.beamA = s.aisle.beamA ∧ (s.writeAnswered r a).aisle.beamS = s.aisle.beamS ∧
    (s.writeAnswered r a).aisle.beamB = s.aisle.beamB ∧ (s.writeAnswered r a).aisle.phase = s.aisle.phase ∧
    (s.writeAnswered r a).store.memory = s.store.memory ∧ (s.writeAnswered r a).store.op = s.store.op := by
  unfold State.writeAnswered
  try simp only []
  repeat' split
  all_goals simp

@[simp] theorem State.queryAnswered_keeps (r : Reader) (c : Nat) :
    (s.queryAnswered r c).now = s.now ∧ (s.queryAnswered r c).free = s.free ∧ (s.queryAnswered r c).phase = s.phase ∧
    (s.queryAnswered r c).scanStep = s.scanStep ∧ (s.queryAnswered r c).scanWork = s.scanWork ∧
    (s.queryAnswered r c).supplyWarning = s.supplyWarning ∧ (s.queryAnswered r c).clock = s.clock ∧
    (s.queryAnswered r c).recovery = s.recovery ∧ (s.queryAnswered r c).station = s.station ∧
    (s.queryAnswered r c).settings = s.settings ∧ (s.queryAnswered r c).pending = s.pending ∧
    (s.queryAnswered r c).aisle.mode = s.aisle.mode ∧ (s.queryAnswered r c).aisle.returnMode = s.aisle.returnMode ∧
    (s.queryAnswered r c).aisle.hostEmergency = s.aisle.hostEmergency ∧
    (s.queryAnswered r c).aisle.emergencyLine = s.aisle.emergencyLine ∧
    (s.queryAnswered r c).aisle.direction = s.aisle.direction ∧
    (s.queryAnswered r c).aisle.pendingDirection = s.aisle.pendingDirection ∧
    (s.queryAnswered r c).aisle.beamA = s.aisle.beamA ∧ (s.queryAnswered r c).aisle.beamS = s.aisle.beamS ∧
    (s.queryAnswered r c).aisle.beamB = s.aisle.beamB ∧ (s.queryAnswered r c).aisle.phase = s.aisle.phase ∧
    (s.queryAnswered r c).store.memory = s.store.memory ∧ (s.queryAnswered r c).store.op = s.store.op := by
  unfold State.queryAnswered
  try simp only []
  repeat' split
  all_goals simp

@[simp] theorem State.twinEnd_keeps (r : Reader) :
    (s.twinEnd r).now = s.now ∧ (s.twinEnd r).free = s.free ∧ (s.twinEnd r).phase = s.phase ∧
    (s.twinEnd r).scanStep = s.scanStep ∧ (s.twinEnd r).scanWork = s.scanWork ∧
    (s.twinEnd r).supplyWarning = s.supplyWarning ∧ (s.twinEnd r).clock = s.clock ∧ (s.twinEnd r).check = s.check ∧
    (s.twinEnd r).recovery = s.recovery ∧ (s.twinEnd r).aisle = s.aisle ∧ (s.twinEnd r).drive = s.drive ∧
    (s.twinEnd r).store.memory = s.store.memory ∧ (s.twinEnd r).store.op = s.store.op ∧
    (s.twinEnd r).station = s.station ∧ (s.twinEnd r).settings = s.settings ∧ (s.twinEnd r).pending = s.pending := by
  unfold State.twinEnd
  try simp only []
  repeat' split
  all_goals simp

@[simp] theorem State.twinPresence_keeps (r : Reader) (n : Nat) :
    (s.twinPresence r n).now = s.now ∧ (s.twinPresence r n).free = s.free ∧ (s.twinPresence r n).phase = s.phase ∧
    (s.twinPresence r n).scanStep = s.scanStep ∧ (s.twinPresence r n).scanWork = s.scanWork ∧
    (s.twinPresence r n).supplyWarning = s.supplyWarning ∧ (s.twinPresence r n).clock = s.clock ∧
    (s.twinPresence r n).recovery = s.recovery ∧ (s.twinPresence r n).aisle = s.aisle ∧
    (s.twinPresence r n).drive = s.drive ∧ (s.twinPresence r n).station = s.station ∧
    (s.twinPresence r n).settings = s.settings ∧ (s.twinPresence r n).pending = s.pending ∧
    (s.twinPresence r n).store.memory = s.store.memory ∧ (s.twinPresence r n).store.op = s.store.op := by
  unfold State.twinPresence
  try simp only []
  repeat' split
  all_goals simp

@[simp] theorem State.listCheck_keeps (r : Reader) (n : Nat) :
    (s.listCheck r n).now = s.now ∧ (s.listCheck r n).free = s.free ∧ (s.listCheck r n).phase = s.phase ∧
    (s.listCheck r n).scanStep = s.scanStep ∧ (s.listCheck r n).scanWork = s.scanWork ∧
    (s.listCheck r n).supplyWarning = s.supplyWarning ∧ (s.listCheck r n).clock = s.clock ∧
    (s.listCheck r n).link = s.link ∧ (s.listCheck r n).recovery = s.recovery ∧ (s.listCheck r n).aisle = s.aisle ∧
    (s.listCheck r n).drive = s.drive ∧ (s.listCheck r n).journal = s.journal ∧
    (s.listCheck r n).store.memory = s.store.memory ∧ (s.listCheck r n).store.op = s.store.op ∧
    (s.listCheck r n).station = s.station ∧ (s.listCheck r n).settings = s.settings ∧
    (s.listCheck r n).pending = s.pending := by
  unfold State.listCheck
  try simp only []
  repeat' split
  all_goals simp

@[simp] theorem State.identityChecks_keeps (r : Reader) (c : CardId) :
    (s.identityChecks r c).now = s.now ∧ (s.identityChecks r c).phase = s.phase ∧
    (s.identityChecks r c).scanStep = s.scanStep ∧ (s.identityChecks r c).scanWork = s.scanWork ∧
    (s.identityChecks r c).supplyWarning = s.supplyWarning ∧ (s.identityChecks r c).clock = s.clock ∧
    (s.identityChecks r c).recovery = s.recovery ∧ (s.identityChecks r c).aisle = s.aisle ∧
    (s.identityChecks r c).drive = s.drive ∧ (s.identityChecks r c).store.memory = s.store.memory ∧
    (s.identityChecks r c).store.op = s.store.op ∧ (s.identityChecks r c).station = s.station ∧
    (s.identityChecks r c).settings = s.settings ∧ (s.identityChecks r c).pending = s.pending := by
  unfold State.identityChecks
  simp only []
  repeat' split
  all_goals simp

@[simp] theorem State.identified_keeps (l : Link) (r : Reader) (c : CardId) :
    (s.identified l r c).now = s.now ∧ (s.identified l r c).phase = s.phase ∧
    (s.identified l r c).scanStep = s.scanStep ∧ (s.identified l r c).scanWork = s.scanWork ∧
    (s.identified l r c).supplyWarning = s.supplyWarning ∧ (s.identified l r c).clock = s.clock ∧
    (s.identified l r c).recovery = s.recovery ∧ (s.identified l r c).aisle = s.aisle ∧
    (s.identified l r c).drive = s.drive ∧ (s.identified l r c).station = s.station ∧
    (s.identified l r c).settings = s.settings ∧ (s.identified l r c).pending = s.pending ∧
    (s.identified l r c).store.memory = s.store.memory ∧ (s.identified l r c).store.op = s.store.op := by
  unfold State.identified
  try simp only []
  repeat' split
  all_goals simp

@[simp] theorem State.authenticated_keeps (r : Reader) :
    (s.authenticated r).now = s.now ∧ (s.authenticated r).free = s.free ∧ (s.authenticated r).phase = s.phase ∧
    (s.authenticated r).scanStep = s.scanStep ∧ (s.authenticated r).scanWork = s.scanWork ∧
    (s.authenticated r).supplyWarning = s.supplyWarning ∧ (s.authenticated r).clock = s.clock ∧
    (s.authenticated r).check = s.check ∧ (s.authenticated r).recovery = s.recovery ∧
    (s.authenticated r).fare = s.fare ∧ (s.authenticated r).drive = s.drive ∧ (s.authenticated r).store = s.store ∧
    (s.authenticated r).station = s.station ∧ (s.authenticated r).loader = s.loader ∧
    (s.authenticated r).settings = s.settings ∧ (s.authenticated r).pending = s.pending ∧
    (s.authenticated r).aisle.mode = s.aisle.mode ∧ (s.authenticated r).aisle.returnMode = s.aisle.returnMode ∧
    (s.authenticated r).aisle.hostEmergency = s.aisle.hostEmergency ∧
    (s.authenticated r).aisle.emergencyLine = s.aisle.emergencyLine ∧
    (s.authenticated r).aisle.direction = s.aisle.direction ∧
    (s.authenticated r).aisle.pendingDirection = s.aisle.pendingDirection ∧
    (s.authenticated r).aisle.beamA = s.aisle.beamA ∧ (s.authenticated r).aisle.beamS = s.aisle.beamS ∧
    (s.authenticated r).aisle.beamB = s.aisle.beamB ∧ (s.authenticated r).aisle.claim = s.aisle.claim ∧
    (s.authenticated r).aisle.phase = s.aisle.phase ∧ (s.authenticated r).aisle.target = s.aisle.target := by
  unfold State.authenticated
  try simp only []
  repeat' split
  all_goals simp

@[simp] theorem State.mismatched_keeps (r : Reader) (c : CardId) :
    (s.mismatched r c).now = s.now ∧ (s.mismatched r c).phase = s.phase ∧ (s.mismatched r c).scanStep = s.scanStep ∧
    (s.mismatched r c).scanWork = s.scanWork ∧ (s.mismatched r c).supplyWarning = s.supplyWarning ∧
    (s.mismatched r c).clock = s.clock ∧ (s.mismatched r c).recovery = s.recovery ∧
    (s.mismatched r c).aisle = s.aisle ∧ (s.mismatched r c).drive = s.drive ∧ (s.mismatched r c).station = s.station ∧
    (s.mismatched r c).settings = s.settings ∧ (s.mismatched r c).pending = s.pending ∧
    (s.mismatched r c).store.memory = s.store.memory ∧ (s.mismatched r c).store.op = s.store.op := by
  unfold State.mismatched
  try simp only []
  repeat' split
  all_goals simp

@[simp] theorem State.readTaken_keeps (r : Reader) (c : CardId) (b : List Byte) :
    (s.readTaken r c b).now = s.now ∧ (s.readTaken r c b).free = s.free ∧ (s.readTaken r c b).phase = s.phase ∧
    (s.readTaken r c b).scanStep = s.scanStep ∧ (s.readTaken r c b).scanWork = s.scanWork ∧
    (s.readTaken r c b).supplyWarning = s.supplyWarning ∧ (s.readTaken r c b).clock = s.clock ∧
    (s.readTaken r c b).station = s.station ∧ (s.readTaken r c b).settings = s.settings ∧
    (s.readTaken r c b).pending = s.pending ∧ (s.readTaken r c b).aisle.mode = s.aisle.mode ∧
    (s.readTaken r c b).aisle.returnMode = s.aisle.returnMode ∧
    (s.readTaken r c b).aisle.hostEmergency = s.aisle.hostEmergency ∧
    (s.readTaken r c b).aisle.emergencyLine = s.aisle.emergencyLine ∧
    (s.readTaken r c b).aisle.direction = s.aisle.direction ∧
    (s.readTaken r c b).aisle.pendingDirection = s.aisle.pendingDirection ∧
    (s.readTaken r c b).aisle.beamA = s.aisle.beamA ∧ (s.readTaken r c b).aisle.beamS = s.aisle.beamS ∧
    (s.readTaken r c b).aisle.beamB = s.aisle.beamB ∧ (s.readTaken r c b).aisle.phase = s.aisle.phase ∧
    (s.readTaken r c b).store.memory = s.store.memory ∧ (s.readTaken r c b).store.op = s.store.op := by
  unfold State.readTaken
  try simp only []
  repeat' split
  all_goals simp

@[simp] theorem State.windowRan_keeps (r : Reader) (e : Exchange) :
    (s.windowRan r e).now = s.now ∧ (s.windowRan r e).phase = s.phase ∧ (s.windowRan r e).scanStep = s.scanStep ∧
    (s.windowRan r e).scanWork = s.scanWork ∧ (s.windowRan r e).supplyWarning = s.supplyWarning ∧
    (s.windowRan r e).clock = s.clock ∧ (s.windowRan r e).check = s.check ∧ (s.windowRan r e).recovery = s.recovery ∧
    (s.windowRan r e).drive = s.drive ∧ (s.windowRan r e).store.memory = s.store.memory ∧
    (s.windowRan r e).store.op = s.store.op ∧ (s.windowRan r e).station = s.station ∧
    (s.windowRan r e).settings = s.settings ∧ (s.windowRan r e).pending = s.pending ∧
    (s.windowRan r e).aisle.mode = s.aisle.mode ∧ (s.windowRan r e).aisle.returnMode = s.aisle.returnMode ∧
    (s.windowRan r e).aisle.hostEmergency = s.aisle.hostEmergency ∧
    (s.windowRan r e).aisle.emergencyLine = s.aisle.emergencyLine ∧
    (s.windowRan r e).aisle.direction = s.aisle.direction ∧
    (s.windowRan r e).aisle.pendingDirection = s.aisle.pendingDirection ∧
    (s.windowRan r e).aisle.beamA = s.aisle.beamA ∧ (s.windowRan r e).aisle.beamS = s.aisle.beamS ∧
    (s.windowRan r e).aisle.beamB = s.aisle.beamB ∧ (s.windowRan r e).aisle.phase = s.aisle.phase ∧
    (s.windowRan r e).aisle.target = s.aisle.target := by
  unfold State.windowRan
  try simp only []
  repeat' split
  all_goals simp

@[simp] theorem State.removedWaiting_keeps (r : Reader) :
    (s.removedWaiting r).now = s.now ∧ (s.removedWaiting r).free = s.free ∧ (s.removedWaiting r).phase = s.phase ∧
    (s.removedWaiting r).scanStep = s.scanStep ∧ (s.removedWaiting r).scanWork = s.scanWork ∧
    (s.removedWaiting r).supplyWarning = s.supplyWarning ∧ (s.removedWaiting r).clock = s.clock ∧
    (s.removedWaiting r).check = s.check ∧ (s.removedWaiting r).recovery = s.recovery ∧
    (s.removedWaiting r).drive = s.drive ∧ (s.removedWaiting r).store.memory = s.store.memory ∧
    (s.removedWaiting r).store.op = s.store.op ∧ (s.removedWaiting r).station = s.station ∧
    (s.removedWaiting r).settings = s.settings ∧ (s.removedWaiting r).pending = s.pending ∧
    (s.removedWaiting r).aisle.mode = s.aisle.mode ∧ (s.removedWaiting r).aisle.returnMode = s.aisle.returnMode ∧
    (s.removedWaiting r).aisle.hostEmergency = s.aisle.hostEmergency ∧
    (s.removedWaiting r).aisle.emergencyLine = s.aisle.emergencyLine ∧
    (s.removedWaiting r).aisle.direction = s.aisle.direction ∧
    (s.removedWaiting r).aisle.pendingDirection = s.aisle.pendingDirection ∧
    (s.removedWaiting r).aisle.beamA = s.aisle.beamA ∧ (s.removedWaiting r).aisle.beamS = s.aisle.beamS ∧
    (s.removedWaiting r).aisle.beamB = s.aisle.beamB ∧ (s.removedWaiting r).aisle.phase = s.aisle.phase ∧
    (s.removedWaiting r).aisle.target = s.aisle.target := by
  unfold State.removedWaiting
  try simp only []
  repeat' split
  all_goals simp

@[simp] theorem State.removedFrom_keeps (r : Reader) :
    (s.removedFrom r).now = s.now ∧ (s.removedFrom r).free = s.free ∧ (s.removedFrom r).phase = s.phase ∧
    (s.removedFrom r).scanStep = s.scanStep ∧ (s.removedFrom r).scanWork = s.scanWork ∧
    (s.removedFrom r).supplyWarning = s.supplyWarning ∧ (s.removedFrom r).clock = s.clock ∧
    (s.removedFrom r).check = s.check ∧ (s.removedFrom r).recovery = s.recovery ∧ (s.removedFrom r).drive = s.drive ∧
    (s.removedFrom r).store.memory = s.store.memory ∧ (s.removedFrom r).store.op = s.store.op ∧
    (s.removedFrom r).station = s.station ∧ (s.removedFrom r).settings = s.settings ∧
    (s.removedFrom r).pending = s.pending ∧ (s.removedFrom r).aisle.mode = s.aisle.mode ∧
    (s.removedFrom r).aisle.returnMode = s.aisle.returnMode ∧
    (s.removedFrom r).aisle.hostEmergency = s.aisle.hostEmergency ∧
    (s.removedFrom r).aisle.emergencyLine = s.aisle.emergencyLine ∧
    (s.removedFrom r).aisle.direction = s.aisle.direction ∧
    (s.removedFrom r).aisle.pendingDirection = s.aisle.pendingDirection ∧
    (s.removedFrom r).aisle.beamA = s.aisle.beamA ∧ (s.removedFrom r).aisle.beamS = s.aisle.beamS ∧
    (s.removedFrom r).aisle.beamB = s.aisle.beamB ∧ (s.removedFrom r).aisle.phase = s.aisle.phase ∧
    (s.removedFrom r).aisle.target = s.aisle.target := by
  unfold State.removedFrom
  try simp only []
  repeat' split
  all_goals simp

@[simp] theorem State.withhold_keeps (r : Reader) :
    (s.withhold r).now = s.now ∧ (s.withhold r).free = s.free ∧ (s.withhold r).phase = s.phase ∧
    (s.withhold r).scanStep = s.scanStep ∧ (s.withhold r).scanWork = s.scanWork ∧
    (s.withhold r).supplyWarning = s.supplyWarning ∧ (s.withhold r).clock = s.clock ∧ (s.withhold r).link = s.link ∧
    (s.withhold r).check = s.check ∧ (s.withhold r).recovery = s.recovery ∧ (s.withhold r).fare = s.fare ∧
    (s.withhold r).drive = s.drive ∧ (s.withhold r).journal = s.journal ∧ (s.withhold r).store = s.store ∧
    (s.withhold r).station = s.station ∧ (s.withhold r).loader = s.loader ∧ (s.withhold r).settings = s.settings ∧
    (s.withhold r).pending = s.pending ∧ (s.withhold r).aisle.mode = s.aisle.mode ∧
    (s.withhold r).aisle.returnMode = s.aisle.returnMode ∧
    (s.withhold r).aisle.hostEmergency = s.aisle.hostEmergency ∧
    (s.withhold r).aisle.emergencyLine = s.aisle.emergencyLine ∧ (s.withhold r).aisle.direction = s.aisle.direction ∧
    (s.withhold r).aisle.pendingDirection = s.aisle.pendingDirection ∧ (s.withhold r).aisle.beamA = s.aisle.beamA ∧
    (s.withhold r).aisle.beamS = s.aisle.beamS ∧ (s.withhold r).aisle.beamB = s.aisle.beamB ∧
    (s.withhold r).aisle.phase = s.aisle.phase ∧ (s.withhold r).aisle.target = s.aisle.target := by
  unfold State.withhold
  try simp only []
  repeat' split
  all_goals simp

@[simp] theorem State.interrupt_keeps (b : Bool) (r : Reader) :
    (s.interrupt b r).now = s.now ∧ (s.interrupt b r).free = s.free ∧ (s.interrupt b r).phase = s.phase ∧
    (s.interrupt b r).scanStep = s.scanStep ∧ (s.interrupt b r).scanWork = s.scanWork ∧
    (s.interrupt b r).supplyWarning = s.supplyWarning ∧ (s.interrupt b r).clock = s.clock ∧
    (s.interrupt b r).check = s.check ∧ (s.interrupt b r).recovery = s.recovery ∧ (s.interrupt b r).fare = s.fare ∧
    (s.interrupt b r).drive = s.drive ∧ (s.interrupt b r).journal = s.journal ∧ (s.interrupt b r).store = s.store ∧
    (s.interrupt b r).station = s.station ∧ (s.interrupt b r).loader = s.loader ∧
    (s.interrupt b r).settings = s.settings ∧ (s.interrupt b r).pending = s.pending ∧
    (s.interrupt b r).aisle.mode = s.aisle.mode ∧ (s.interrupt b r).aisle.returnMode = s.aisle.returnMode ∧
    (s.interrupt b r).aisle.hostEmergency = s.aisle.hostEmergency ∧
    (s.interrupt b r).aisle.emergencyLine = s.aisle.emergencyLine ∧
    (s.interrupt b r).aisle.direction = s.aisle.direction ∧
    (s.interrupt b r).aisle.pendingDirection = s.aisle.pendingDirection ∧
    (s.interrupt b r).aisle.beamA = s.aisle.beamA ∧ (s.interrupt b r).aisle.beamS = s.aisle.beamS ∧
    (s.interrupt b r).aisle.beamB = s.aisle.beamB ∧ (s.interrupt b r).aisle.phase = s.aisle.phase ∧
    (s.interrupt b r).aisle.target = s.aisle.target := by
  unfold State.interrupt
  split
  · simp
  · simp
  · simp
  · rename_i h
    have hd := s.endSession_outside r .aborted (Session.deciding_early _ (.inl h))
    simp [hd]
  · rename_i h
    have hd := s.endSession_outside r .aborted (Session.deciding_early _ (.inr (.inl h)))
    simp [hd]
  · rename_i h
    have hd := s.endSession_outside r .aborted (Session.deciding_early _ (.inr (.inr h)))
    simp [hd]
  all_goals split <;> simp

@[simp] theorem State.responseTaken_keeps (r : Reader) (e : Exchange) (x : BitVec 64) :
    (s.responseTaken r e x).now = s.now ∧ (s.responseTaken r e x).phase = s.phase ∧
    (s.responseTaken r e x).scanStep = s.scanStep ∧ (s.responseTaken r e x).scanWork = s.scanWork ∧
    (s.responseTaken r e x).supplyWarning = s.supplyWarning ∧ (s.responseTaken r e x).clock = s.clock ∧
    (s.responseTaken r e x).recovery = s.recovery ∧ (s.responseTaken r e x).drive = s.drive ∧
    (s.responseTaken r e x).station = s.station ∧ (s.responseTaken r e x).settings = s.settings ∧
    (s.responseTaken r e x).pending = s.pending ∧ (s.responseTaken r e x).aisle.mode = s.aisle.mode ∧
    (s.responseTaken r e x).aisle.returnMode = s.aisle.returnMode ∧
    (s.responseTaken r e x).aisle.hostEmergency = s.aisle.hostEmergency ∧
    (s.responseTaken r e x).aisle.emergencyLine = s.aisle.emergencyLine ∧
    (s.responseTaken r e x).aisle.direction = s.aisle.direction ∧
    (s.responseTaken r e x).aisle.pendingDirection = s.aisle.pendingDirection ∧
    (s.responseTaken r e x).aisle.beamA = s.aisle.beamA ∧ (s.responseTaken r e x).aisle.beamS = s.aisle.beamS ∧
    (s.responseTaken r e x).aisle.beamB = s.aisle.beamB ∧ (s.responseTaken r e x).aisle.phase = s.aisle.phase ∧
    (s.responseTaken r e x).aisle.claim = s.aisle.claim ∧ (s.responseTaken r e x).aisle.target = s.aisle.target ∧
    (s.responseTaken r e x).store.memory = s.store.memory ∧ (s.responseTaken r e x).store.op = s.store.op := by
  unfold State.responseTaken
  try simp only []
  repeat' split
  all_goals simp

@[simp] theorem State.startSession_keeps (r : Reader) :
    (s.startSession r).now = s.now ∧ (s.startSession r).free = s.free ∧ (s.startSession r).phase = s.phase ∧
    (s.startSession r).scanStep = s.scanStep ∧ (s.startSession r).scanWork = s.scanWork ∧
    (s.startSession r).supplyWarning = s.supplyWarning ∧ (s.startSession r).clock = s.clock ∧
    (s.startSession r).check = s.check ∧ (s.startSession r).recovery = s.recovery ∧
    (s.startSession r).fare = s.fare ∧ (s.startSession r).aisle = s.aisle ∧ (s.startSession r).drive = s.drive ∧
    (s.startSession r).journal = s.journal ∧ (s.startSession r).store = s.store ∧
    (s.startSession r).station = s.station ∧ (s.startSession r).loader = s.loader ∧
    (s.startSession r).settings = s.settings ∧ (s.startSession r).pending = s.pending := by
  unfold State.startSession
  split
  · have hd := fun u h => State.endSession_outside u r .emergency (Session.deciding_early (u.session r) (.inl h))
    simp [hd]
  · simp

@[simp] theorem State.interruptBoth_keeps :
    (s.interruptBoth).now = s.now ∧ (s.interruptBoth).free = s.free ∧ (s.interruptBoth).phase = s.phase ∧
    (s.interruptBoth).scanStep = s.scanStep ∧ (s.interruptBoth).scanWork = s.scanWork ∧
    (s.interruptBoth).supplyWarning = s.supplyWarning ∧ (s.interruptBoth).clock = s.clock ∧
    (s.interruptBoth).check = s.check ∧ (s.interruptBoth).recovery = s.recovery ∧ (s.interruptBoth).fare = s.fare ∧
    (s.interruptBoth).drive = s.drive ∧ (s.interruptBoth).journal = s.journal ∧ (s.interruptBoth).store = s.store ∧
    (s.interruptBoth).station = s.station ∧ (s.interruptBoth).loader = s.loader ∧
    (s.interruptBoth).settings = s.settings ∧ (s.interruptBoth).pending = s.pending ∧
    (s.interruptBoth).aisle.mode = s.aisle.mode ∧ (s.interruptBoth).aisle.returnMode = s.aisle.returnMode ∧
    (s.interruptBoth).aisle.hostEmergency = s.aisle.hostEmergency ∧
    (s.interruptBoth).aisle.emergencyLine = s.aisle.emergencyLine ∧
    (s.interruptBoth).aisle.direction = s.aisle.direction ∧
    (s.interruptBoth).aisle.pendingDirection = s.aisle.pendingDirection ∧
    (s.interruptBoth).aisle.beamA = s.aisle.beamA ∧ (s.interruptBoth).aisle.beamS = s.aisle.beamS ∧
    (s.interruptBoth).aisle.beamB = s.aisle.beamB ∧ (s.interruptBoth).aisle.phase = s.aisle.phase ∧
    (s.interruptBoth).aisle.target = s.aisle.target := by
  unfold State.interruptBoth
  try simp only []
  repeat' split
  all_goals simp

@[simp] theorem State.recordUnused_keeps (cs : List Credit) :
    (s.recordUnused cs).now = s.now ∧ (s.recordUnused cs).free = s.free ∧ (s.recordUnused cs).phase = s.phase ∧
    (s.recordUnused cs).scanStep = s.scanStep ∧ (s.recordUnused cs).scanWork = s.scanWork ∧
    (s.recordUnused cs).supplyWarning = s.supplyWarning ∧ (s.recordUnused cs).clock = s.clock ∧
    (s.recordUnused cs).cards = s.cards ∧ (s.recordUnused cs).check = s.check ∧
    (s.recordUnused cs).recovery = s.recovery ∧ (s.recordUnused cs).fare = s.fare ∧
    (s.recordUnused cs).aisle = s.aisle ∧ (s.recordUnused cs).drive = s.drive ∧ (s.recordUnused cs).store = s.store ∧
    (s.recordUnused cs).station = s.station ∧ (s.recordUnused cs).loader = s.loader ∧
    (s.recordUnused cs).settings = s.settings ∧ (s.recordUnused cs).pending = s.pending := by
  induction cs generalizing s with
  | nil => and_intros <;> rfl
  | cons c cs ih =>
    unfold State.recordUnused at ih ⊢
    simp only [List.foldl_cons]
    split
    · refine (?_ : _ ∧ _)
      have h := ih (s.offerRecord (s.unusedRecord reasonMode c.direction c.seq))
      simpa using h
    · exact ih s

@[simp] theorem State.clearAisle_keeps :
    (s.clearAisle).now = s.now ∧ (s.clearAisle).free = s.free ∧ (s.clearAisle).phase = s.phase ∧
    (s.clearAisle).scanStep = s.scanStep ∧ (s.clearAisle).scanWork = s.scanWork ∧
    (s.clearAisle).supplyWarning = s.supplyWarning ∧ (s.clearAisle).clock = s.clock ∧
    (s.clearAisle).check = s.check ∧ (s.clearAisle).recovery = s.recovery ∧ (s.clearAisle).fare = s.fare ∧
    (s.clearAisle).drive = s.drive ∧ (s.clearAisle).store = s.store ∧ (s.clearAisle).station = s.station ∧
    (s.clearAisle).loader = s.loader ∧ (s.clearAisle).settings = s.settings ∧ (s.clearAisle).pending = s.pending ∧
    (s.clearAisle).aisle.mode = s.aisle.mode ∧ (s.clearAisle).aisle.returnMode = s.aisle.returnMode ∧
    (s.clearAisle).aisle.hostEmergency = s.aisle.hostEmergency ∧
    (s.clearAisle).aisle.emergencyLine = s.aisle.emergencyLine ∧ (s.clearAisle).aisle.direction = s.aisle.direction ∧
    (s.clearAisle).aisle.pendingDirection = s.aisle.pendingDirection ∧ (s.clearAisle).aisle.beamA = s.aisle.beamA ∧
    (s.clearAisle).aisle.beamS = s.aisle.beamS ∧ (s.clearAisle).aisle.beamB = s.aisle.beamB ∧
    (s.clearAisle).aisle.phase = s.aisle.phase ∧ (s.clearAisle).aisle.target = s.aisle.target := by
  unfold State.clearAisle
  try simp only []
  repeat' split
  all_goals simp

@[simp] theorem State.leavesOnMode_keeps (a b : GateMode) :
    (s.leavesOnMode a b).now = s.now ∧ (s.leavesOnMode a b).free = s.free ∧ (s.leavesOnMode a b).phase = s.phase ∧
    (s.leavesOnMode a b).scanStep = s.scanStep ∧ (s.leavesOnMode a b).scanWork = s.scanWork ∧
    (s.leavesOnMode a b).supplyWarning = s.supplyWarning ∧ (s.leavesOnMode a b).clock = s.clock ∧
    (s.leavesOnMode a b).cards = s.cards ∧ (s.leavesOnMode a b).check = s.check ∧
    (s.leavesOnMode a b).recovery = s.recovery ∧ (s.leavesOnMode a b).fare = s.fare ∧
    (s.leavesOnMode a b).aisle = s.aisle ∧ (s.leavesOnMode a b).journal = s.journal ∧
    (s.leavesOnMode a b).store = s.store ∧ (s.leavesOnMode a b).station = s.station ∧
    (s.leavesOnMode a b).loader = s.loader ∧ (s.leavesOnMode a b).settings = s.settings ∧
    (s.leavesOnMode a b).pending = s.pending ∧ (s.leavesOnMode a b).drive.inForce = s.drive.inForce := by
  unfold State.leavesOnMode
  try simp only []
  repeat' split
  all_goals simp

@[simp] theorem State.changeMode_keeps (m : GateMode) :
    (s.changeMode m).now = s.now ∧ (s.changeMode m).free = s.free ∧ (s.changeMode m).phase = s.phase ∧
    (s.changeMode m).scanStep = s.scanStep ∧ (s.changeMode m).scanWork = s.scanWork ∧
    (s.changeMode m).supplyWarning = s.supplyWarning ∧ (s.changeMode m).clock = s.clock ∧
    (s.changeMode m).check = s.check ∧ (s.changeMode m).recovery = s.recovery ∧ (s.changeMode m).fare = s.fare ∧
    (s.changeMode m).store = s.store ∧ (s.changeMode m).station = s.station ∧ (s.changeMode m).loader = s.loader ∧
    (s.changeMode m).settings = s.settings ∧ (s.changeMode m).pending = s.pending ∧
    (s.changeMode m).aisle.returnMode = s.aisle.returnMode ∧
    (s.changeMode m).aisle.hostEmergency = s.aisle.hostEmergency ∧
    (s.changeMode m).aisle.emergencyLine = s.aisle.emergencyLine ∧
    (s.changeMode m).aisle.direction = s.aisle.direction ∧
    (s.changeMode m).aisle.pendingDirection = s.aisle.pendingDirection ∧
    (s.changeMode m).aisle.beamA = s.aisle.beamA ∧ (s.changeMode m).aisle.beamS = s.aisle.beamS ∧
    (s.changeMode m).aisle.beamB = s.aisle.beamB ∧ (s.changeMode m).aisle.phase = s.aisle.phase := by
  unfold State.changeMode
  try simp only []
  repeat' split
  all_goals simp

@[simp] theorem State.followMode_keeps :
    (s.followMode).now = s.now ∧ (s.followMode).free = s.free ∧ (s.followMode).phase = s.phase ∧
    (s.followMode).scanStep = s.scanStep ∧ (s.followMode).scanWork = s.scanWork ∧
    (s.followMode).supplyWarning = s.supplyWarning ∧ (s.followMode).clock = s.clock ∧
    (s.followMode).check = s.check ∧ (s.followMode).recovery = s.recovery ∧ (s.followMode).fare = s.fare ∧
    (s.followMode).store = s.store ∧ (s.followMode).station = s.station ∧ (s.followMode).loader = s.loader ∧
    (s.followMode).settings = s.settings ∧ (s.followMode).pending = s.pending ∧
    (s.followMode).aisle.returnMode = s.aisle.returnMode ∧
    (s.followMode).aisle.hostEmergency = s.aisle.hostEmergency ∧
    (s.followMode).aisle.emergencyLine = s.aisle.emergencyLine ∧ (s.followMode).aisle.direction = s.aisle.direction ∧
    (s.followMode).aisle.pendingDirection = s.aisle.pendingDirection ∧ (s.followMode).aisle.beamA = s.aisle.beamA ∧
    (s.followMode).aisle.beamS = s.aisle.beamS ∧ (s.followMode).aisle.beamB = s.aisle.beamB ∧
    (s.followMode).aisle.phase = s.aisle.phase := by
  unfold State.followMode
  try simp only []
  repeat' split
  all_goals simp

@[simp] theorem State.startWarning_keeps :
    (s.startWarning).now = s.now ∧ (s.startWarning).free = s.free ∧ (s.startWarning).phase = s.phase ∧
    (s.startWarning).scanStep = s.scanStep ∧ (s.startWarning).scanWork = s.scanWork ∧
    (s.startWarning).clock = s.clock ∧ (s.startWarning).check = s.check ∧ (s.startWarning).recovery = s.recovery ∧
    (s.startWarning).fare = s.fare ∧ (s.startWarning).journal = s.journal ∧ (s.startWarning).station = s.station ∧
    (s.startWarning).loader = s.loader ∧ (s.startWarning).settings = s.settings ∧
    (s.startWarning).pending = s.pending ∧
    (s.startWarning).aisle.mode = s.aisle.mode ∧
    (s.startWarning).aisle.returnMode = s.aisle.returnMode ∧
    (s.startWarning).aisle.hostEmergency = s.aisle.hostEmergency ∧
    (s.startWarning).aisle.emergencyLine = s.aisle.emergencyLine ∧
    (s.startWarning).aisle.direction = s.aisle.direction ∧
    (s.startWarning).aisle.pendingDirection = s.aisle.pendingDirection ∧
    (s.startWarning).aisle.beamA = s.aisle.beamA ∧ (s.startWarning).aisle.beamS = s.aisle.beamS ∧
    (s.startWarning).aisle.beamB = s.aisle.beamB ∧ (s.startWarning).aisle.phase = s.aisle.phase ∧
    (s.startWarning).aisle.target = s.aisle.target ∧ (s.startWarning).store.memory = s.store.memory := by
  unfold State.startWarning
  try simp only []
  repeat' split
  all_goals simp

@[simp] theorem State.endWarning_keeps :
    (s.endWarning).now = s.now ∧ (s.endWarning).free = s.free ∧ (s.endWarning).phase = s.phase ∧
    (s.endWarning).scanStep = s.scanStep ∧ (s.endWarning).scanWork = s.scanWork ∧ (s.endWarning).clock = s.clock ∧
    (s.endWarning).cards = s.cards ∧ (s.endWarning).check = s.check ∧ (s.endWarning).recovery = s.recovery ∧
    (s.endWarning).fare = s.fare ∧ (s.endWarning).aisle = s.aisle ∧ (s.endWarning).station = s.station ∧
    (s.endWarning).loader = s.loader ∧ (s.endWarning).settings = s.settings ∧ (s.endWarning).pending = s.pending ∧
    (s.endWarning).store.memory = s.store.memory := by
  unfold State.endWarning
  try simp only []
  repeat' split
  all_goals simp

@[simp] theorem State.applySettings_keeps :
    (s.applySettings).now = s.now ∧ (s.applySettings).free = s.free ∧ (s.applySettings).phase = s.phase ∧
    (s.applySettings).scanStep = s.scanStep ∧ (s.applySettings).scanWork = s.scanWork ∧
    (s.applySettings).supplyWarning = s.supplyWarning ∧ (s.applySettings).clock = s.clock ∧
    (s.applySettings).cards = s.cards ∧ (s.applySettings).check = s.check ∧ (s.applySettings).recovery = s.recovery ∧
    (s.applySettings).fare = s.fare ∧ (s.applySettings).aisle = s.aisle ∧ (s.applySettings).journal = s.journal ∧
    (s.applySettings).store = s.store ∧ (s.applySettings).station = s.station ∧ (s.applySettings).loader = s.loader ∧
    (s.applySettings).pending = s.pending ∧ (s.applySettings).settings.stored = s.settings.stored := by
  unfold State.applySettings
  try simp only []
  repeat' split
  all_goals simp

@[simp] theorem State.interruptExcluded_keeps (r : Reader) :
    (s.interruptExcluded r).now = s.now ∧ (s.interruptExcluded r).free = s.free ∧
    (s.interruptExcluded r).phase = s.phase ∧ (s.interruptExcluded r).scanStep = s.scanStep ∧
    (s.interruptExcluded r).scanWork = s.scanWork ∧ (s.interruptExcluded r).supplyWarning = s.supplyWarning ∧
    (s.interruptExcluded r).clock = s.clock ∧ (s.interruptExcluded r).check = s.check ∧
    (s.interruptExcluded r).recovery = s.recovery ∧ (s.interruptExcluded r).fare = s.fare ∧
    (s.interruptExcluded r).drive = s.drive ∧ (s.interruptExcluded r).journal = s.journal ∧
    (s.interruptExcluded r).store = s.store ∧ (s.interruptExcluded r).station = s.station ∧
    (s.interruptExcluded r).loader = s.loader ∧ (s.interruptExcluded r).settings = s.settings ∧
    (s.interruptExcluded r).pending = s.pending ∧
    (s.interruptExcluded r).aisle.mode = s.aisle.mode ∧
    (s.interruptExcluded r).aisle.returnMode = s.aisle.returnMode ∧
    (s.interruptExcluded r).aisle.hostEmergency = s.aisle.hostEmergency ∧
    (s.interruptExcluded r).aisle.emergencyLine = s.aisle.emergencyLine ∧
    (s.interruptExcluded r).aisle.direction = s.aisle.direction ∧
    (s.interruptExcluded r).aisle.pendingDirection = s.aisle.pendingDirection ∧
    (s.interruptExcluded r).aisle.beamA = s.aisle.beamA ∧ (s.interruptExcluded r).aisle.beamS = s.aisle.beamS ∧
    (s.interruptExcluded r).aisle.beamB = s.aisle.beamB ∧ (s.interruptExcluded r).aisle.phase = s.aisle.phase ∧
    (s.interruptExcluded r).aisle.target = s.aisle.target := by
  unfold State.interruptExcluded
  try simp only []
  repeat' split
  all_goals simp

@[simp] theorem State.applyDirection_keeps :
    (s.applyDirection).now = s.now ∧ (s.applyDirection).free = s.free ∧ (s.applyDirection).phase = s.phase ∧
    (s.applyDirection).scanStep = s.scanStep ∧ (s.applyDirection).scanWork = s.scanWork ∧
    (s.applyDirection).supplyWarning = s.supplyWarning ∧ (s.applyDirection).clock = s.clock ∧
    (s.applyDirection).check = s.check ∧ (s.applyDirection).recovery = s.recovery ∧
    (s.applyDirection).fare = s.fare ∧ (s.applyDirection).drive = s.drive ∧ (s.applyDirection).journal = s.journal ∧
    (s.applyDirection).station = s.station ∧ (s.applyDirection).loader = s.loader ∧
    (s.applyDirection).settings = s.settings ∧ (s.applyDirection).pending = s.pending ∧
    (s.applyDirection).aisle.mode = s.aisle.mode ∧ (s.applyDirection).aisle.returnMode = s.aisle.returnMode ∧
    (s.applyDirection).aisle.hostEmergency = s.aisle.hostEmergency ∧
    (s.applyDirection).aisle.emergencyLine = s.aisle.emergencyLine ∧ (s.applyDirection).aisle.beamA = s.aisle.beamA ∧
    (s.applyDirection).aisle.beamS = s.aisle.beamS ∧ (s.applyDirection).aisle.beamB = s.aisle.beamB ∧
    (s.applyDirection).aisle.phase = s.aisle.phase ∧ (s.applyDirection).aisle.target = s.aisle.target ∧
    (s.applyDirection).store.memory = s.store.memory ∧ (s.applyDirection).store.op = s.store.op := by
  unfold State.applyDirection
  try simp only []
  repeat' split
  all_goals simp

@[simp] theorem State.applyPending_keeps :
    (s.applyPending).now = s.now ∧ (s.applyPending).free = s.free ∧ (s.applyPending).phase = s.phase ∧
    (s.applyPending).scanStep = s.scanStep ∧ (s.applyPending).scanWork = s.scanWork ∧
    (s.applyPending).supplyWarning = s.supplyWarning ∧ (s.applyPending).clock = s.clock ∧
    (s.applyPending).check = s.check ∧ (s.applyPending).recovery = s.recovery ∧ (s.applyPending).fare = s.fare ∧
    (s.applyPending).journal = s.journal ∧ (s.applyPending).station = s.station ∧
    (s.applyPending).loader = s.loader ∧ (s.applyPending).pending = s.pending ∧
    (s.applyPending).aisle.mode = s.aisle.mode ∧ (s.applyPending).aisle.returnMode = s.aisle.returnMode ∧
    (s.applyPending).aisle.hostEmergency = s.aisle.hostEmergency ∧
    (s.applyPending).aisle.emergencyLine = s.aisle.emergencyLine ∧ (s.applyPending).aisle.beamA = s.aisle.beamA ∧
    (s.applyPending).aisle.beamS = s.aisle.beamS ∧ (s.applyPending).aisle.beamB = s.aisle.beamB ∧
    (s.applyPending).aisle.phase = s.aisle.phase ∧ (s.applyPending).aisle.target = s.aisle.target ∧
    (s.applyPending).store.memory = s.store.memory ∧ (s.applyPending).store.op = s.store.op ∧
    (s.applyPending).settings.stored = s.settings.stored := by
  unfold State.applyPending
  try simp only []
  repeat' split
  all_goals simp

@[simp] theorem State.testLoad_keeps :
    (s.testLoad).now = s.now ∧ (s.testLoad).free = s.free ∧ (s.testLoad).phase = s.phase ∧
    (s.testLoad).scanStep = s.scanStep ∧ (s.testLoad).scanWork = s.scanWork ∧
    (s.testLoad).supplyWarning = s.supplyWarning ∧ (s.testLoad).clock = s.clock ∧ (s.testLoad).cards = s.cards ∧
    (s.testLoad).recovery = s.recovery ∧ (s.testLoad).fare = s.fare ∧ (s.testLoad).aisle = s.aisle ∧
    (s.testLoad).drive = s.drive ∧ (s.testLoad).journal = s.journal ∧ (s.testLoad).station = s.station ∧
    (s.testLoad).settings = s.settings ∧ (s.testLoad).pending = s.pending ∧
    (s.testLoad).store.memory = s.store.memory ∧ (s.testLoad).store.op = s.store.op := by
  unfold State.testLoad
  try simp only []
  repeat' split
  all_goals simp

@[simp] theorem State.takeDelta_keeps (d : Delta) :
    (s.takeDelta d).now = s.now ∧ (s.takeDelta d).free = s.free ∧ (s.takeDelta d).phase = s.phase ∧
    (s.takeDelta d).scanStep = s.scanStep ∧ (s.takeDelta d).scanWork = s.scanWork ∧
    (s.takeDelta d).supplyWarning = s.supplyWarning ∧ (s.takeDelta d).clock = s.clock ∧
    (s.takeDelta d).link = s.link ∧ (s.takeDelta d).cards = s.cards ∧ (s.takeDelta d).recovery = s.recovery ∧
    (s.takeDelta d).fare = s.fare ∧ (s.takeDelta d).aisle = s.aisle ∧ (s.takeDelta d).drive = s.drive ∧
    (s.takeDelta d).journal = s.journal ∧ (s.takeDelta d).station = s.station ∧
    (s.takeDelta d).settings = s.settings ∧ (s.takeDelta d).pending = s.pending ∧
    (s.takeDelta d).store.memory = s.store.memory ∧ (s.takeDelta d).store.op = s.store.op := by
  unfold State.takeDelta
  try simp only []
  repeat' split
  all_goals simp

@[simp] theorem State.intentProgrammed_keeps (r : Reader) (n : Nat) :
    (s.intentProgrammed r n).now = s.now ∧ (s.intentProgrammed r n).free = s.free ∧
    (s.intentProgrammed r n).phase = s.phase ∧ (s.intentProgrammed r n).scanStep = s.scanStep ∧
    (s.intentProgrammed r n).scanWork = s.scanWork ∧ (s.intentProgrammed r n).supplyWarning = s.supplyWarning ∧
    (s.intentProgrammed r n).clock = s.clock ∧ (s.intentProgrammed r n).link = s.link ∧
    (s.intentProgrammed r n).check = s.check ∧ (s.intentProgrammed r n).recovery = s.recovery ∧
    (s.intentProgrammed r n).fare = s.fare ∧ (s.intentProgrammed r n).aisle = s.aisle ∧
    (s.intentProgrammed r n).drive = s.drive ∧ (s.intentProgrammed r n).journal = s.journal ∧
    (s.intentProgrammed r n).store = s.store ∧ (s.intentProgrammed r n).station = s.station ∧
    (s.intentProgrammed r n).loader = s.loader ∧ (s.intentProgrammed r n).settings = s.settings ∧
    (s.intentProgrammed r n).pending = s.pending := by
  unfold State.intentProgrammed
  try simp only []
  repeat' split
  all_goals simp

@[simp] theorem State.intentFailed_keeps (r : Reader) (n : Nat) :
    (s.intentFailed r n).now = s.now ∧ (s.intentFailed r n).free = s.free ∧ (s.intentFailed r n).phase = s.phase ∧
    (s.intentFailed r n).scanStep = s.scanStep ∧ (s.intentFailed r n).scanWork = s.scanWork ∧
    (s.intentFailed r n).supplyWarning = s.supplyWarning ∧ (s.intentFailed r n).clock = s.clock ∧
    (s.intentFailed r n).check = s.check ∧ (s.intentFailed r n).recovery = s.recovery ∧
    (s.intentFailed r n).drive = s.drive ∧ (s.intentFailed r n).journal = s.journal ∧
    (s.intentFailed r n).store.memory = s.store.memory ∧ (s.intentFailed r n).store.op = s.store.op ∧
    (s.intentFailed r n).station = s.station ∧ (s.intentFailed r n).settings = s.settings ∧
    (s.intentFailed r n).pending = s.pending ∧ (s.intentFailed r n).aisle.mode = s.aisle.mode ∧
    (s.intentFailed r n).aisle.returnMode = s.aisle.returnMode ∧
    (s.intentFailed r n).aisle.hostEmergency = s.aisle.hostEmergency ∧
    (s.intentFailed r n).aisle.emergencyLine = s.aisle.emergencyLine ∧
    (s.intentFailed r n).aisle.direction = s.aisle.direction ∧
    (s.intentFailed r n).aisle.pendingDirection = s.aisle.pendingDirection ∧
    (s.intentFailed r n).aisle.beamA = s.aisle.beamA ∧ (s.intentFailed r n).aisle.beamS = s.aisle.beamS ∧
    (s.intentFailed r n).aisle.beamB = s.aisle.beamB ∧ (s.intentFailed r n).aisle.phase = s.aisle.phase ∧
    (s.intentFailed r n).aisle.target = s.aisle.target := by
  unfold State.intentFailed
  try simp only []
  repeat' split
  all_goals simp

@[simp] theorem State.recordProgrammed_keeps (rec : JournalRecord) (p : Nat) (o : RecordOwner) :
    (s.recordProgrammed rec p o).now = s.now ∧ (s.recordProgrammed rec p o).free = s.free ∧
    (s.recordProgrammed rec p o).phase = s.phase ∧ (s.recordProgrammed rec p o).scanStep = s.scanStep ∧
    (s.recordProgrammed rec p o).scanWork = s.scanWork ∧
    (s.recordProgrammed rec p o).supplyWarning = s.supplyWarning ∧ (s.recordProgrammed rec p o).clock = s.clock ∧
    (s.recordProgrammed rec p o).link = s.link ∧ (s.recordProgrammed rec p o).check = s.check ∧
    (s.recordProgrammed rec p o).recovery = s.recovery ∧ (s.recordProgrammed rec p o).fare = s.fare ∧
    (s.recordProgrammed rec p o).aisle = s.aisle ∧ (s.recordProgrammed rec p o).drive = s.drive ∧
    (s.recordProgrammed rec p o).store = s.store ∧ (s.recordProgrammed rec p o).station = s.station ∧
    (s.recordProgrammed rec p o).loader = s.loader ∧ (s.recordProgrammed rec p o).settings = s.settings ∧
    (s.recordProgrammed rec p o).pending = s.pending := by
  unfold State.recordProgrammed
  try simp only []
  repeat' split
  all_goals simp

@[simp] theorem State.recordFailed_keeps (rec : JournalRecord) (p : Nat) (o : RecordOwner) :
    (s.recordFailed rec p o).now = s.now ∧ (s.recordFailed rec p o).free = s.free ∧
    (s.recordFailed rec p o).phase = s.phase ∧ (s.recordFailed rec p o).scanStep = s.scanStep ∧
    (s.recordFailed rec p o).scanWork = s.scanWork ∧ (s.recordFailed rec p o).supplyWarning = s.supplyWarning ∧
    (s.recordFailed rec p o).clock = s.clock ∧ (s.recordFailed rec p o).check = s.check ∧
    (s.recordFailed rec p o).recovery = s.recovery ∧ (s.recordFailed rec p o).drive = s.drive ∧
    (s.recordFailed rec p o).store.memory = s.store.memory ∧ (s.recordFailed rec p o).store.op = s.store.op ∧
    (s.recordFailed rec p o).station = s.station ∧ (s.recordFailed rec p o).settings = s.settings ∧
    (s.recordFailed rec p o).pending = s.pending ∧ (s.recordFailed rec p o).aisle.mode = s.aisle.mode ∧
    (s.recordFailed rec p o).aisle.returnMode = s.aisle.returnMode ∧
    (s.recordFailed rec p o).aisle.hostEmergency = s.aisle.hostEmergency ∧
    (s.recordFailed rec p o).aisle.emergencyLine = s.aisle.emergencyLine ∧
    (s.recordFailed rec p o).aisle.direction = s.aisle.direction ∧
    (s.recordFailed rec p o).aisle.pendingDirection = s.aisle.pendingDirection ∧
    (s.recordFailed rec p o).aisle.beamA = s.aisle.beamA ∧ (s.recordFailed rec p o).aisle.beamS = s.aisle.beamS ∧
    (s.recordFailed rec p o).aisle.beamB = s.aisle.beamB ∧ (s.recordFailed rec p o).aisle.phase = s.aisle.phase ∧
    (s.recordFailed rec p o).aisle.target = s.aisle.target := by
  unfold State.recordFailed
  try simp only []
  repeat' split
  all_goals simp

@[simp] theorem State.markReported_keeps (b : Bool) (p : Nat) (e : Option RecoveryEntry) :
    (s.markReported b p e).now = s.now ∧ (s.markReported b p e).free = s.free ∧
    (s.markReported b p e).phase = s.phase ∧ (s.markReported b p e).scanStep = s.scanStep ∧
    (s.markReported b p e).scanWork = s.scanWork ∧ (s.markReported b p e).supplyWarning = s.supplyWarning ∧
    (s.markReported b p e).clock = s.clock ∧ (s.markReported b p e).link = s.link ∧
    (s.markReported b p e).cards = s.cards ∧ (s.markReported b p e).check = s.check ∧
    (s.markReported b p e).fare = s.fare ∧ (s.markReported b p e).aisle = s.aisle ∧
    (s.markReported b p e).drive = s.drive ∧ (s.markReported b p e).store = s.store ∧
    (s.markReported b p e).station = s.station ∧ (s.markReported b p e).loader = s.loader ∧
    (s.markReported b p e).settings = s.settings ∧ (s.markReported b p e).pending = s.pending := by
  unfold State.markReported
  try simp only []
  repeat' split
  all_goals simp

@[simp] theorem State.stagingDone_keeps (b : Bool) :
    (s.stagingDone b).now = s.now ∧ (s.stagingDone b).free = s.free ∧ (s.stagingDone b).phase = s.phase ∧
    (s.stagingDone b).scanStep = s.scanStep ∧ (s.stagingDone b).scanWork = s.scanWork ∧
    (s.stagingDone b).supplyWarning = s.supplyWarning ∧ (s.stagingDone b).clock = s.clock ∧
    (s.stagingDone b).check = s.check ∧ (s.stagingDone b).drive = s.drive ∧
    (s.stagingDone b).store.memory = s.store.memory ∧ (s.stagingDone b).store.op = s.store.op ∧
    (s.stagingDone b).station = s.station ∧ (s.stagingDone b).settings = s.settings ∧
    (s.stagingDone b).pending = s.pending ∧ (s.stagingDone b).aisle.mode = s.aisle.mode ∧
    (s.stagingDone b).aisle.returnMode = s.aisle.returnMode ∧
    (s.stagingDone b).aisle.hostEmergency = s.aisle.hostEmergency ∧
    (s.stagingDone b).aisle.emergencyLine = s.aisle.emergencyLine ∧
    (s.stagingDone b).aisle.direction = s.aisle.direction ∧
    (s.stagingDone b).aisle.pendingDirection = s.aisle.pendingDirection ∧
    (s.stagingDone b).aisle.beamA = s.aisle.beamA ∧ (s.stagingDone b).aisle.beamS = s.aisle.beamS ∧
    (s.stagingDone b).aisle.beamB = s.aisle.beamB ∧ (s.stagingDone b).aisle.phase = s.aisle.phase ∧
    (s.stagingDone b).aisle.target = s.aisle.target := by
  unfold State.stagingDone
  try simp only []
  repeat' split
  all_goals simp

@[simp] theorem State.floorDone_keeps (b : Bool) (n : Option Nat) :
    (s.floorDone b n).now = s.now ∧ (s.floorDone b n).free = s.free ∧ (s.floorDone b n).phase = s.phase ∧
    (s.floorDone b n).scanStep = s.scanStep ∧ (s.floorDone b n).scanWork = s.scanWork ∧
    (s.floorDone b n).supplyWarning = s.supplyWarning ∧ (s.floorDone b n).clock = s.clock ∧
    (s.floorDone b n).link = s.link ∧ (s.floorDone b n).cards = s.cards ∧ (s.floorDone b n).check = s.check ∧
    (s.floorDone b n).recovery = s.recovery ∧ (s.floorDone b n).fare = s.fare ∧ (s.floorDone b n).aisle = s.aisle ∧
    (s.floorDone b n).drive = s.drive ∧ (s.floorDone b n).store = s.store ∧ (s.floorDone b n).station = s.station ∧
    (s.floorDone b n).loader = s.loader ∧ (s.floorDone b n).settings = s.settings ∧
    (s.floorDone b n).pending = s.pending := by
  unfold State.floorDone
  try simp only []
  repeat' split
  all_goals simp

@[simp] theorem State.eraseDone_keeps (b : Bool) (k : Nat) :
    (s.eraseDone b k).now = s.now ∧ (s.eraseDone b k).free = s.free ∧ (s.eraseDone b k).phase = s.phase ∧
    (s.eraseDone b k).scanStep = s.scanStep ∧ (s.eraseDone b k).scanWork = s.scanWork ∧
    (s.eraseDone b k).supplyWarning = s.supplyWarning ∧ (s.eraseDone b k).clock = s.clock ∧
    (s.eraseDone b k).link = s.link ∧ (s.eraseDone b k).cards = s.cards ∧ (s.eraseDone b k).check = s.check ∧
    (s.eraseDone b k).fare = s.fare ∧ (s.eraseDone b k).aisle = s.aisle ∧ (s.eraseDone b k).drive = s.drive ∧
    (s.eraseDone b k).store = s.store ∧ (s.eraseDone b k).station = s.station ∧ (s.eraseDone b k).loader = s.loader ∧
    (s.eraseDone b k).settings = s.settings ∧ (s.eraseDone b k).pending = s.pending := by
  unfold State.eraseDone
  try simp only []
  repeat' split
  all_goals simp

@[simp] theorem State.jobDone_keeps (k : JobKind) :
    (s.jobDone k).now = s.now ∧ (s.jobDone k).free = s.free ∧ (s.jobDone k).phase = s.phase ∧
    (s.jobDone k).scanStep = s.scanStep ∧ (s.jobDone k).scanWork = s.scanWork ∧
    (s.jobDone k).supplyWarning = s.supplyWarning ∧ (s.jobDone k).clock = s.clock ∧ (s.jobDone k).check = s.check ∧
    (s.jobDone k).recovery = s.recovery ∧ (s.jobDone k).aisle = s.aisle ∧ (s.jobDone k).drive = s.drive ∧
    (s.jobDone k).journal = s.journal ∧ (s.jobDone k).settings = s.settings ∧ (s.jobDone k).pending = s.pending ∧
    (s.jobDone k).store.memory = s.store.memory ∧ (s.jobDone k).store.op = s.store.op := by
  unfold State.jobDone
  try simp only []
  repeat' split
  all_goals simp

@[simp] theorem State.jobFailed_keeps (k : JobKind) :
    (s.jobFailed k).now = s.now ∧ (s.jobFailed k).free = s.free ∧ (s.jobFailed k).phase = s.phase ∧
    (s.jobFailed k).scanStep = s.scanStep ∧ (s.jobFailed k).scanWork = s.scanWork ∧
    (s.jobFailed k).supplyWarning = s.supplyWarning ∧ (s.jobFailed k).clock = s.clock ∧
    (s.jobFailed k).link = s.link ∧ (s.jobFailed k).cards = s.cards ∧ (s.jobFailed k).check = s.check ∧
    (s.jobFailed k).recovery = s.recovery ∧ (s.jobFailed k).fare = s.fare ∧ (s.jobFailed k).aisle = s.aisle ∧
    (s.jobFailed k).drive = s.drive ∧ (s.jobFailed k).journal = s.journal ∧ (s.jobFailed k).store = s.store ∧
    (s.jobFailed k).settings = s.settings ∧ (s.jobFailed k).pending = s.pending := by
  unfold State.jobFailed
  try simp only []
  repeat' split
  all_goals simp

@[simp] theorem State.jobOperationDone_keeps (b : Bool) (n : Option Nat) :
    (s.jobOperationDone b n).now = s.now ∧ (s.jobOperationDone b n).free = s.free ∧
    (s.jobOperationDone b n).phase = s.phase ∧ (s.jobOperationDone b n).scanStep = s.scanStep ∧
    (s.jobOperationDone b n).scanWork = s.scanWork ∧ (s.jobOperationDone b n).supplyWarning = s.supplyWarning ∧
    (s.jobOperationDone b n).clock = s.clock ∧ (s.jobOperationDone b n).check = s.check ∧
    (s.jobOperationDone b n).recovery = s.recovery ∧ (s.jobOperationDone b n).aisle = s.aisle ∧
    (s.jobOperationDone b n).drive = s.drive ∧ (s.jobOperationDone b n).journal = s.journal ∧
    (s.jobOperationDone b n).settings = s.settings ∧ (s.jobOperationDone b n).pending = s.pending ∧
    (s.jobOperationDone b n).store.memory = s.store.memory ∧ (s.jobOperationDone b n).store.op = s.store.op := by
  unfold State.jobOperationDone
  try simp only []
  repeat' split
  all_goals simp

@[simp] theorem State.clockFailed_keeps :
    (s.clockFailed).now = s.now ∧ (s.clockFailed).free = s.free ∧ (s.clockFailed).phase = s.phase ∧
    (s.clockFailed).scanStep = s.scanStep ∧ (s.clockFailed).scanWork = s.scanWork ∧
    (s.clockFailed).supplyWarning = s.supplyWarning ∧ (s.clockFailed).clock = s.clock ∧
    (s.clockFailed).check = s.check ∧ (s.clockFailed).recovery = s.recovery ∧ (s.clockFailed).fare = s.fare ∧
    (s.clockFailed).drive = s.drive ∧ (s.clockFailed).journal = s.journal ∧ (s.clockFailed).store = s.store ∧
    (s.clockFailed).station = s.station ∧ (s.clockFailed).loader = s.loader ∧ (s.clockFailed).settings = s.settings ∧
    (s.clockFailed).pending = s.pending ∧
    (s.clockFailed).aisle.mode = s.aisle.mode ∧
    (s.clockFailed).aisle.returnMode = s.aisle.returnMode ∧
    (s.clockFailed).aisle.hostEmergency = s.aisle.hostEmergency ∧
    (s.clockFailed).aisle.emergencyLine = s.aisle.emergencyLine ∧
    (s.clockFailed).aisle.direction = s.aisle.direction ∧
    (s.clockFailed).aisle.pendingDirection = s.aisle.pendingDirection ∧ (s.clockFailed).aisle.beamA = s.aisle.beamA ∧
    (s.clockFailed).aisle.beamS = s.aisle.beamS ∧ (s.clockFailed).aisle.beamB = s.aisle.beamB ∧
    (s.clockFailed).aisle.phase = s.aisle.phase ∧ (s.clockFailed).aisle.target = s.aisle.target := by
  unfold State.clockFailed
  try simp only []
  repeat' split
  all_goals simp

@[simp] theorem State.switchChanged_keeps (side : LeafSide) (e : LeafEnd) :
    (s.switchChanged side e).now = s.now ∧ (s.switchChanged side e).free = s.free ∧
    (s.switchChanged side e).phase = s.phase ∧ (s.switchChanged side e).scanStep = s.scanStep ∧
    (s.switchChanged side e).scanWork = s.scanWork ∧ (s.switchChanged side e).supplyWarning = s.supplyWarning ∧
    (s.switchChanged side e).clock = s.clock ∧ (s.switchChanged side e).cards = s.cards ∧
    (s.switchChanged side e).check = s.check ∧ (s.switchChanged side e).recovery = s.recovery ∧
    (s.switchChanged side e).fare = s.fare ∧ (s.switchChanged side e).aisle = s.aisle ∧
    (s.switchChanged side e).journal = s.journal ∧ (s.switchChanged side e).store = s.store ∧
    (s.switchChanged side e).station = s.station ∧ (s.switchChanged side e).loader = s.loader ∧
    (s.switchChanged side e).settings = s.settings ∧ (s.switchChanged side e).pending = s.pending ∧
    (s.switchChanged side e).drive.inForce = s.drive.inForce := by
  unfold State.switchChanged
  simp only []
  split <;> simp <;> cases side <;> rfl

@[simp] theorem State.beamChanged_keeps (b : Beam) :
    (s.beamChanged b).now = s.now ∧ (s.beamChanged b).free = s.free ∧ (s.beamChanged b).phase = s.phase ∧
    (s.beamChanged b).scanStep = s.scanStep ∧ (s.beamChanged b).scanWork = s.scanWork ∧
    (s.beamChanged b).supplyWarning = s.supplyWarning ∧ (s.beamChanged b).clock = s.clock ∧
    (s.beamChanged b).cards = s.cards ∧ (s.beamChanged b).check = s.check ∧ (s.beamChanged b).recovery = s.recovery ∧
    (s.beamChanged b).fare = s.fare ∧ (s.beamChanged b).station = s.station ∧ (s.beamChanged b).loader = s.loader ∧
    (s.beamChanged b).settings = s.settings ∧ (s.beamChanged b).pending = s.pending ∧
    (s.beamChanged b).store.memory = s.store.memory ∧ (s.beamChanged b).aisle.mode = s.aisle.mode ∧
    (s.beamChanged b).aisle.returnMode = s.aisle.returnMode ∧
    (s.beamChanged b).aisle.hostEmergency = s.aisle.hostEmergency ∧
    (s.beamChanged b).aisle.emergencyLine = s.aisle.emergencyLine ∧
    (s.beamChanged b).aisle.direction = s.aisle.direction ∧
    (s.beamChanged b).aisle.pendingDirection = s.aisle.pendingDirection := by
  unfold State.beamChanged
  try simp only []
  repeat' split
  all_goals simp

@[simp] theorem State.takeLine_keeps :
    (s.takeLine).now = s.now ∧ (s.takeLine).free = s.free ∧ (s.takeLine).phase = s.phase ∧
    (s.takeLine).scanStep = s.scanStep ∧ (s.takeLine).scanWork = s.scanWork ∧
    (s.takeLine).supplyWarning = s.supplyWarning ∧ (s.takeLine).clock = s.clock ∧ (s.takeLine).check = s.check ∧
    (s.takeLine).recovery = s.recovery ∧ (s.takeLine).fare = s.fare ∧ (s.takeLine).station = s.station ∧
    (s.takeLine).loader = s.loader ∧ (s.takeLine).settings = s.settings ∧ (s.takeLine).pending = s.pending ∧
    (s.takeLine).store.memory = s.store.memory ∧ (s.takeLine).aisle.returnMode = s.aisle.returnMode ∧
    (s.takeLine).aisle.hostEmergency = s.aisle.hostEmergency ∧ (s.takeLine).aisle.direction = s.aisle.direction ∧
    (s.takeLine).aisle.pendingDirection = s.aisle.pendingDirection ∧ (s.takeLine).aisle.beamA = s.aisle.beamA ∧
    (s.takeLine).aisle.beamS = s.aisle.beamS ∧ (s.takeLine).aisle.beamB = s.aisle.beamB ∧
    (s.takeLine).aisle.phase = s.aisle.phase := by
  unfold State.takeLine
  try simp only []
  repeat' split
  all_goals simp

end Sys2Proof.Machine
end

