-- ==== Sys2Proof/Laws/Memory.lean ====
section
/-! SUPPORT. The store's bytes: the canonical form is kept by every operation, and a byte written reads back while every
other byte stays. -/

namespace Sys2Proof.Machine

/-! ## The canonical form -/

theorem Memory.wfFrom_mono {m : Memory} {low low' : Nat} (h : Memory.wfFrom low m = true) (hl : low' ≤ low) :
    Memory.wfFrom low' m = true := by
  cases m with
  | nil => rfl
  | cons c rest =>
    obtain ⟨k, v⟩ := c
    simp only [Memory.wfFrom, Bool.and_eq_true, decide_eq_true_eq] at h ⊢
    exact ⟨⟨by omega, h.1.2⟩, h.2⟩

theorem Memory.wfFrom_cons {low k : Nat} {v : Byte} {rest : Memory} :
    Memory.wfFrom low ((k, v) :: rest) = true ↔ low ≤ k ∧ v ≠ erasedByte ∧ Memory.wfFrom (k + 1) rest = true := by
  simp [Memory.wfFrom, and_assoc]

theorem Memory.set_wfFrom (m : Memory) (a : Nat) (b : Byte) (low : Nat) (h : Memory.wfFrom low m = true) (ha : low ≤ a) :
    Memory.wfFrom low (m.set a b) = true := by
  induction m generalizing low with
  | nil =>
    unfold Memory.set
    split
    · rfl
    · exact Memory.wfFrom_cons.2 ⟨ha, by assumption, rfl⟩
  | cons c rest ih =>
    obtain ⟨k, v⟩ := c
    obtain ⟨hk, hv, hr⟩ := Memory.wfFrom_cons.1 h
    unfold Memory.set
    split
    · split
      · exact h
      · exact Memory.wfFrom_cons.2 ⟨ha, by assumption, Memory.wfFrom_cons.2 ⟨by omega, hv, hr⟩⟩
    · split
      · subst a
        split
        · exact Memory.wfFrom_mono hr (by omega)
        · exact Memory.wfFrom_cons.2 ⟨ha, by assumption, hr⟩
      · exact Memory.wfFrom_cons.2 ⟨hk, hv, ih (k + 1) hr (by omega)⟩

theorem Memory.filter_wfFrom (m : Memory) (p : Host.Cell → Bool) (low : Nat) (h : Memory.wfFrom low m = true) :
    Memory.wfFrom low (m.filter p) = true := by
  induction m generalizing low with
  | nil => rfl
  | cons c rest ih =>
    obtain ⟨k, v⟩ := c
    obtain ⟨hk, hv, hr⟩ := Memory.wfFrom_cons.1 h
    by_cases hp : p (k, v) = true
    · rw [List.filter_cons_of_pos hp]
      exact Memory.wfFrom_cons.2 ⟨hk, hv, ih (k + 1) hr⟩
    · rw [List.filter_cons_of_neg hp]
      exact Memory.wfFrom_mono (ih (k + 1) hr) (by omega)

/-- Writing a byte keeps the canonical form. -/
theorem Memory.set_wf {m : Memory} (a : Nat) (b : Byte) (h : m.wf = true) : (m.set a b).wf = true :=
  Memory.set_wfFrom m a b 0 h (Nat.zero_le _)

/-- Keeping some of the listed bytes keeps the canonical form. -/
theorem Memory.filter_wf {m : Memory} (p : Host.Cell → Bool) (h : m.wf = true) : Memory.wf (m.filter p) = true :=
  Memory.filter_wfFrom m p 0 h

/-- A program keeps the canonical form. -/
theorem Memory.program_wf {m : Memory} (a : Nat) (bs : List Byte) (h : m.wf = true) : (m.program a bs).wf = true := by
  induction bs generalizing m a with
  | nil => exact h
  | cons b bs ih => exact ih (a + 1) (Memory.set_wf _ _ h)

/-- A torn program keeps the canonical form. -/
theorem Memory.tornProgram_wf {m : Memory} (a n : Nat) (bs : List Byte) (h : m.wf = true) :
    (m.tornProgram a n bs).wf = true := by
  induction bs generalizing m a n with
  | nil => exact h
  | cons b bs ih => exact ih (a + 1) (n + 1) (Memory.set_wf _ _ h)

/-- A torn record keeps the canonical form. -/
theorem Memory.tornRecord_wf {m : Memory} (a n : Nat) (bs : List Byte) (h : m.wf = true) :
    (m.tornRecord a n bs).wf = true := by
  have ht := Memory.tornProgram_wf (a + 6) (n + 6) (bs.drop 6) (Memory.tornProgram_wf a n (bs.take 5) h)
  unfold Memory.tornRecord
  simp only []
  split
  · exact Memory.tornProgram_wf _ _ _ ht
  · exact ht

/-- What an operation that runs to its end does keeps the canonical form. -/
theorem Memory.carryOut_wf {m : Memory} (x : StoreAction) (h : m.wf = true) : (m.carryOut x).wf = true := by
  cases x with
  | program k a bs => exact Memory.program_wf a bs h
  | erase k => exact Memory.filter_wf _ h

/-- What a torn operation leaves keeps the canonical form. -/
theorem Memory.tearAction_wf {m : Memory} (n : Nat) (x : StoreAction) (h : m.wf = true) : (m.tearAction n x).wf = true := by
  cases x with
  | program k a bs =>
    simp only [Memory.tearAction]
    split
    · exact Memory.tornRecord_wf a n bs h
    · exact Memory.tornProgram_wf a n bs h
  | erase k => exact Memory.filter_wf _ h

/-- The memory after reset is canonical. -/
theorem reset_memory_wf : State.reset.store.memory.wf = true := rfl

/-! ## Reading after writing -/

theorem Memory.read_below {m : Memory} {low a : Nat} (h : Memory.wfFrom low m = true) (ha : a < low) :
    m.read a = erasedByte := by
  induction m generalizing low with
  | nil => rfl
  | cons c rest ih =>
    obtain ⟨k, v⟩ := c
    obtain ⟨hk, -, hr⟩ := Memory.wfFrom_cons.1 h
    have hne : k ≠ a := by omega
    simpa [Memory.read, hne] using ih hr (by omega)

theorem Memory.read_set_from {m : Memory} {low : Nat} (h : Memory.wfFrom low m = true) (a : Nat) (b : Byte) (x : Nat) :
    (m.set a b).read x = if x = a then b else m.read x := by
  induction m generalizing low with
  | nil =>
    unfold Memory.set
    by_cases hx : x = a
    · split <;> simp_all [Memory.read]
    · have : a ≠ x := fun e => hx e.symm
      split <;> simp [Memory.read, this]
  | cons c rest ih =>
    obtain ⟨k, v⟩ := c
    obtain ⟨hk, hv, hr⟩ := Memory.wfFrom_cons.1 h
    unfold Memory.set
    by_cases hx : x = a
    · subst hx
      split
      · have hb : Memory.read ((k, v) :: rest) x = erasedByte :=
          Memory.read_below (low := k) (Memory.wfFrom_cons.2 ⟨Nat.le_refl _, hv, hr⟩) (by omega)
        split <;> simp_all [Memory.read]
      · split
        · subst k
          have hb : Memory.read rest x = erasedByte := Memory.read_below hr (by omega)
          split <;> simp_all [Memory.read]
        · have hne : k ≠ x := by omega
          simpa [Memory.read, hne] using ih hr
    · have hne : a ≠ x := fun e => hx e.symm
      split
      · split <;> simp [Memory.read, hne]
      · split
        · subst k
          split <;> simp [Memory.read, hne]
        · have := ih hr
          simp only [hx, if_false] at this ⊢
          simp [Memory.read, this]

/-- A byte written reads back, and every other byte reads as before. -/
theorem Memory.read_set {m : Memory} (h : m.wf = true) (a : Nat) (b : Byte) (x : Nat) :
    (m.set a b).read x = if x = a then b else m.read x := Memory.read_set_from h a b x

/-- A program clears the bits asked for in the bytes asked for, and leaves every other byte. -/
theorem Memory.read_program {m : Memory} (h : m.wf = true) (a : Nat) (bs : List Byte) (x : Nat) :
    (m.program a bs).read x = if a ≤ x ∧ x < a + bs.length then m.read x &&& bs.getD (x - a) 0xFF#8 else m.read x := by
  induction bs generalizing m a with
  | nil => rw [Memory.program, if_neg (by simp only [List.length_nil]; omega)]
  | cons b bs ih =>
    rw [Memory.program, ih (Memory.set_wf _ _ h), Memory.read_set h]
    by_cases hx : x = a
    · subst hx
      have h1 : ¬ (x + 1 ≤ x ∧ x < x + 1 + bs.length) := by omega
      have h2 : x ≤ x ∧ x < x + (b :: bs).length := by simp
      rw [if_neg h1, if_pos rfl, if_pos h2]
      simp
    · by_cases hin : a + 1 ≤ x ∧ x < a + 1 + bs.length
      · have h1 : a ≤ x ∧ x < a + (b :: bs).length := by simp; omega
        have h2 : x - a = (x - (a + 1)) + 1 := by omega
        rw [if_pos hin, if_neg hx, if_pos h1, h2, List.getD_cons_succ]
      · have h1 : ¬ (a ≤ x ∧ x < a + (b :: bs).length) := by simp; omega
        simp only [hin, h1, hx, if_false]

/-- A torn program leaves in each of its bytes the old value with some of the bits asked for cleared, which ones a free byte says,
and leaves every other byte (R169; log entry 3). -/
theorem Memory.read_tornProgram {m : Memory} (h : m.wf = true) (a n : Nat) (bs : List Byte) (x : Nat) :
    (m.tornProgram a n bs).read x =
      if a ≤ x ∧ x < a + bs.length then m.read x &&& (bs.getD (x - a) 0xFF#8 ||| Config.freeByte (n + (x - a)))
      else m.read x := by
  induction bs generalizing m a n with
  | nil => rw [Memory.tornProgram, if_neg (by simp only [List.length_nil]; omega)]
  | cons b bs ih =>
    rw [Memory.tornProgram, ih (Memory.set_wf _ _ h), Memory.read_set h]
    by_cases hx : x = a
    · subst hx
      have h1 : ¬ (x + 1 ≤ x ∧ x < x + 1 + bs.length) := by omega
      have h2 : x ≤ x ∧ x < x + (b :: bs).length := by simp
      rw [if_neg h1, if_pos rfl, if_pos h2]
      simp
    · by_cases hin : a + 1 ≤ x ∧ x < a + 1 + bs.length
      · have h1 : a ≤ x ∧ x < a + (b :: bs).length := by simp; omega
        have h2 : x - a = (x - (a + 1)) + 1 := by omega
        rw [if_pos hin, if_neg hx, if_pos h1, h2, List.getD_cons_succ]
        congr 3
        omega
      · have h1 : ¬ (a ≤ x ∧ x < a + (b :: bs).length) := by simp; omega
        simp only [hin, h1, hx, if_false]

theorem Memory.read_filter_from {m : Memory} {low : Nat} (h : Memory.wfFrom low m = true) (p : Host.Cell → Bool) (q : Nat → Bool)
    (hq : ∀ c, p c = q c.1) (x : Nat) : Memory.read (m.filter p) x = if q x then m.read x else erasedByte := by
  induction m generalizing low with
  | nil => simp [Memory.read]
  | cons c rest ih =>
    obtain ⟨k, v⟩ := c
    obtain ⟨hk, hv, hr⟩ := Memory.wfFrom_cons.1 h
    by_cases hp : p (k, v) = true
    · rw [List.filter_cons_of_pos hp]
      by_cases hx : k = x
      · subst hx
        have : q k = true := by rw [← hq (k, v)]; exact hp
        simp [Memory.read, this]
      · simpa [Memory.read, hx] using ih hr
    · rw [List.filter_cons_of_neg hp]
      by_cases hx : k = x
      · subst hx
        have hq' : q k = false := by rw [← hq (k, v)]; simpa using hp
        rw [ih hr]
        simp [hq']
      · simpa [Memory.read, hx] using ih hr

/-- An erase makes every byte of its sector read 0xFF and leaves every other byte (R164). -/
theorem Memory.read_eraseSector {m : Memory} (h : m.wf = true) (k x : Nat) :
    (m.eraseSector k).read x = if inSector k x then erasedByte else m.read x := by
  have := Memory.read_filter_from h (fun c => !inSector k c.1) (fun a => !inSector k a) (fun _ => rfl) x
  unfold Memory.eraseSector
  rw [this]
  cases inSector k x <;> simp

/-! ## Ranges -/

/-- The listed bytes of a range are the range's bytes. -/
theorem Memory.bytes_listed {m : Memory} (h : m.wf = true) (a n k : Nat) (hk : k ≤ n) :
    (m.listed a n).bytes a k = m.bytes a k := by
  refine List.map_congr_left fun i hi => ?_
  have hi : i < k := List.mem_range.1 hi
  rw [Memory.listed, Memory.read_filter_from h _ (fun x => decide (a ≤ x) && decide (x < a + n)) (fun _ => rfl)]
  simp only [Bool.and_eq_true, decide_eq_true_eq]
  rw [if_pos (by omega)]

/-- A listed byte is no erased one, and is what its address reads. -/
theorem Memory.read_mem {m : Memory} {low a : Nat} {v : Byte} (h : Memory.wfFrom low m = true) (hm : (a, v) ∈ m) :
    low ≤ a ∧ v ≠ erasedByte ∧ m.read a = v := by
  induction m generalizing low with
  | nil => cases hm
  | cons c rest ih =>
    obtain ⟨k, w⟩ := c
    obtain ⟨hk, hv, hr⟩ := Memory.wfFrom_cons.1 h
    rcases List.mem_cons.1 hm with e | hm
    · obtain ⟨rfl, rfl⟩ := Prod.mk.inj e
      exact ⟨hk, hv, by rw [Memory.read, if_pos rfl]⟩
    · obtain ⟨h1, h2, h3⟩ := ih hr hm
      exact ⟨by omega, h2, by rw [Memory.read, if_neg (by omega), h3]⟩

/-- A range is blank exactly when each of its bytes is erased. -/
theorem Memory.blank_iff {m : Memory} (h : m.wf = true) (a n : Nat) :
    m.blank a n = true ↔ ∀ x, a ≤ x → x < a + n → m.read x = erasedByte := by
  refine ⟨fun hb x h1 h2 => ?_, fun hr => ?_⟩
  · have e := Memory.read_filter_from h (fun c : Host.Cell => decide (a ≤ c.1) && decide (c.1 < a + n))
      (fun y => decide (a ≤ y) && decide (y < a + n)) (fun _ => rfl) x
    have : m.filter (fun c : Host.Cell => decide (a ≤ c.1) && decide (c.1 < a + n)) = [] := List.isEmpty_iff.1 hb
    rw [this] at e
    simp only [h1, h2, decide_true, Bool.and_self, if_true] at e
    exact e.symm
  · refine List.isEmpty_iff.2 (List.filter_eq_nil_iff.2 fun c hc => ?_)
    obtain ⟨k, v⟩ := c
    obtain ⟨-, hv, hk⟩ := Memory.read_mem h hc
    simp only [Bool.and_eq_true, decide_eq_true_eq]
    rintro ⟨h1, h2⟩
    exact hv (hk ▸ hr k h1 h2)

/-- Bytes that read as a list does are that list. -/
theorem Memory.bytes_eq {m : Memory} {a : Nat} {bs : List Byte} (h : ∀ i, i < bs.length → m.read (a + i) = bs.getD i 0xFF#8) :
    m.bytes a bs.length = bs := by
  refine List.ext_getElem (by simp [Memory.bytes]) fun i h1 h2 => ?_
  have := h i h2
  simp only [Memory.bytes, List.getElem_map, List.getElem_range]
  rw [this, List.getD_eq_getElem?_getD, List.getElem?_eq_getElem h2, Option.getD_some]

end Sys2Proof.Machine
end

