-- ==== Sys2Proof/Laws/Ops.lean ====
section
/-! SUPPORT. What the operations that the commands share can do: one theorem per operation, listing its cases. -/

namespace Sys2Proof.Machine

variable (s : State)

/-- Taking a request leaves the state, answers STARTING or BAD_LENGTH, or decides the fields by the owning rule. -/
theorem takeRequest_cases {α : Type} [DecidableEq α] (kind : Byte) (read : List Byte → Payload α) (p : Payload α)
    (rule : α → State → State) :
    takeRequest kind read p rule s = s ∨ takeRequest kind read p rule s = s.dropFrame.reply kind .starting .none ∨
    takeRequest kind read p rule s = s.dropFrame.reply kind .badLength .none ∨
    ∃ a, p = .fits a ∧ takeRequest kind read p rule s = rule a s.dropFrame := by
  unfold takeRequest
  split
  · simp only []
    split
    · exact .inr (.inl rfl)
    · cases p with
      | fits a => exact .inr (.inr (.inr ⟨a, rfl, rfl⟩))
      | misfit => exact .inr (.inr (.inl rfl))
  · exact .inl rfl

/-- A request that the port takes in service, with a payload that fits, is decided by the owning rule. -/
theorem takeRequest_fits {α : Type} [DecidableEq α] {kind : Byte} {read : List Byte → Payload α}
    {rule : α → State → State} (a : α) (hp : (s.portTakes kind fun bs => decide (read bs = .fits a)) = true)
    (hr : s.phase = .running) : takeRequest kind read (.fits a) rule s = rule a s.dropFrame := by
  simp [takeRequest, hp, hr]

/-- A frame in the input queue that does not spell the request keeps it from being taken. -/
theorem takeRequest_other {α : Type} [DecidableEq α] {kind : Byte} {read : List Byte → Payload α} {p : Payload α}
    {rule : α → State → State} {f : Frame} {rest : List Frame} (hf : s.link.input = f :: rest)
    (h : f.kind ≠ kind ∨ read f.payload ≠ p) : takeRequest kind read p rule s = s := by
  rcases h with h | h <;> simp [takeRequest, State.portTakes, hf, h]

/-- An expiry of a timer that runs. -/
theorem onExpiry_some {t : Timer} {d : Nat} {act : State → State} (h : t = some d) :
    s.onExpiry t act = act (s.reach d) := by
  subst h; rfl

/-- An expiry leaves the state or lets the owner act at the deadline. -/
theorem onExpiry_cases (t : Timer) (act : State → State) :
    s.onExpiry t act = s ∨ ∃ d, t = some d ∧ s.onExpiry t act = act (s.reach d) := by
  cases t with
  | none => exact .inl rfl
  | some d => exact .inr ⟨d, rfl, rfl⟩

/-- What waits for service acts in service and not before. -/
theorem whileRunning_cases (act : State → State) :
    s.whileRunning act = s ∨ s.phase = .running ∧ s.whileRunning act = act s := by
  unfold State.whileRunning
  split
  · exact .inr ⟨by assumption, rfl⟩
  · exact .inl rfl

/-- An expiry in service leaves the state or lets the owner act at the deadline. -/
theorem onServiceExpiry_cases (t : Timer) (act : State → State) :
    s.onServiceExpiry t act = s ∨
    ∃ d, t = some d ∧ s.phase = .running ∧ s.onServiceExpiry t act = act (s.reach d) := by
  unfold State.onServiceExpiry
  rcases whileRunning_cases s (fun s => s.onExpiry t act) with h | ⟨hr, h⟩
  · exact .inl h
  · rw [h]
    rcases onExpiry_cases s t act with h | ⟨d, hd, h⟩
    · exact .inl h
    · exact .inr ⟨d, hd, hr, h⟩

/-- What follows the front-ends acts from the end of the reset on. -/
theorem whileLinkRuns_cases (act : State → State) :
    s.whileLinkRuns act = s ∨ s.phase.linkRuns = true ∧ s.whileLinkRuns act = act s := by
  unfold State.whileLinkRuns
  split
  · exact .inr ⟨by assumption, rfl⟩
  · exact .inl rfl

/-- An answer is discarded, or it answers the outstanding exchange of its link's reader. -/
theorem onAnswer_cases (l : Link) (fits : Exchange → Bool) (act : Reader → Exchange → State → State) :
    s.onAnswer l fits act = s ∨
    ∃ e, (s.session (s.readerAt l)).exchange = some e ∧ fits e = true ∧ s.phase = .running ∧
      s.onAnswer l fits act = act (s.readerAt l) e s := by
  unfold State.onAnswer State.whileRunning
  split
  · rename_i hr
    simp only []
    split
    · rename_i e he
      split
      · exact .inr ⟨e, he, by assumption, hr, rfl⟩
      · exact .inl rfl
    · exact .inl rfl
  · exact .inl rfl

/-- A completion of an owner's operation leaves the state or ends the operation in progress. -/
theorem completeOwned_cases (ok : Bool) (p : OpOwner → Bool) :
    s.completeOwned ok p = s ∨
    ∃ op, s.runningOp = some op ∧ p op.owner = true ∧ s.completeOwned ok p = s.completeOp ok op := by
  unfold State.completeOwned
  split
  · rename_i op h
    split
    · exact .inr ⟨op, h, by assumption, rfl⟩
    · exact .inl rfl
  · exact .inl rfl

/-- A completion of a job's operation leaves the state or ends the operation in progress. -/
theorem completeJobOp_cases (ok : Bool) (p : JobKind → Bool) :
    s.completeJobOp ok p = s ∨
    ∃ k op, s.runningJob = some k ∧ s.runningOp = some op ∧ p k = true ∧
      s.completeJobOp ok p = s.completeOp ok op := by
  unfold State.completeJobOp
  split
  · rename_i k op hk ho
    split
    · exact .inr ⟨k, op, hk, ho, by assumption, rfl⟩
    · exact .inl rfl
  · exact .inl rfl

/-- The operation that runs is the one in progress. -/
theorem runningOp_eq {op : StoreOp} (h : s.runningOp = some op) : s.store.op = some op ∧ s.supplyWarning = false := by
  unfold State.runningOp at h
  split at h
  · simp at h
  · exact ⟨h, by simpa using ‹¬ s.supplyWarning = true›⟩

/-- The end of an operation leaves the clocks, the mode's inputs, the lists and the settings. -/
@[simp] theorem State.completeOp_keeps (ok : Bool) (op : StoreOp) :
    (s.completeOp ok op).now = s.now ∧ (s.completeOp ok op).phase = s.phase ∧
    (s.completeOp ok op).scanStep = s.scanStep ∧ (s.completeOp ok op).supplyWarning = s.supplyWarning ∧
    (s.completeOp ok op).clock = s.clock ∧ (s.completeOp ok op).check = s.check ∧
    (s.completeOp ok op).drive = s.drive ∧
    (s.completeOp ok op).settings = s.settings ∧ (s.completeOp ok op).pending = s.pending ∧
    (s.completeOp ok op).aisle.mode = s.aisle.mode ∧ (s.completeOp ok op).aisle.phase = s.aisle.phase ∧
    (s.completeOp ok op).aisle.target = s.aisle.target ∧ (s.completeOp ok op).aisle.beamS = s.aisle.beamS := by
  unfold State.completeOp
  simp only []
  cases op.owner <;> simp

/-- A completion leaves the queue of commands. -/
theorem completion_pending (ok : Bool) (p : OpOwner → Bool) (q : JobKind → Bool) :
    (s.completeOwned ok p).pending = s.pending ∧ (s.completeJobOp ok q).pending = s.pending := by
  constructor
  · rcases completeOwned_cases s ok p with h | ⟨op, -, -, h⟩ <;> rw [h] <;> simp
  · rcases completeJobOp_cases s ok q with h | ⟨k, op, -, -, -, h⟩ <;> rw [h] <;> simp

/-- The first credit that meets a test is dropped as `List.eraseP` drops it. -/
theorem dropFirst_eq_eraseP {α : Type} (p : α → Bool) (xs : List α) : dropFirst p xs = xs.eraseP p := by
  induction xs with
  | nil => rfl
  | cons c cs ih => simp [dropFirst, List.eraseP_cons, ih, Bool.cond_eq_ite]

/-- The floor in force stands in one of the sectors: a valid FLOOR record there holds it. -/
theorem State.floorIn_iff (ks : List Nat) : s.floorIn ks = true ↔
    ∃ k ∈ ks, ∃ r ∈ controlRecords s.store.memory k,
      r.kind = ControlRecordKind.floor.code ∧ field r.body 0 4 = s.journal.floor := by
  simp [State.floorIn]

/-- A write to sector 1 or 2 programs its record, erases a full sector once sector 0 holds the floor, or takes a step of the
write that puts the floor there. -/
theorem State.refreshStep_cases (sector : Nat) (record : StoreAction) (stage : Nat) :
    (s.store.full sector = false ∧ s.refreshStep sector record stage = (record, none)) ∨
    (s.store.full sector = true ∧ (s.journal.floor = 0 ∨ s.floorIn [0] = true) ∧
      s.refreshStep sector record stage = (.erase sector, some 0)) ∨
    (s.store.full sector = true ∧ ∃ n, s.refreshStep sector record stage =
      ((s.sector0Step .floor (floorBody s.journal.floor) stage).1, some n)) := by
  unfold State.refreshStep
  split
  · exact .inl ⟨by simp_all, rfl⟩
  · split
    · exact .inr (.inl ⟨by simp_all, ‹_ ∧ _›.2, rfl⟩)
    · exact .inr (.inr ⟨by simp_all, _, rfl⟩)

end Sys2Proof.Machine
end

