-- ==== Sys2Proof/Laws/Store.lean ====
section
/-! SUPPORT. What the end of a store operation leaves in the store: its bytes, nothing in progress, and the fill position of its
control sector (R164, R167, R169, R170). -/

namespace Sys2Proof.Machine

variable (s : State)

/-- Equal fill positions of the three control sectors. -/
theorem Store.fill_eq {st st' : Store} (h : st'.fill0 = st.fill0 ∧ st'.fill1 = st.fill1 ∧ st'.fill2 = st.fill2) :
    st'.fill = st.fill := by
  funext k
  unfold Store.fill
  split <;> simp [h]

/-- Work queued, started or ended leaves the control sectors' fill positions. -/
@[simp] theorem State.testDue_fill : s.testDue.store.fill = s.store.fill := by
  refine Store.fill_eq ?_
  unfold State.testDue State.activateFare State.queueJob
  simp only []
  repeat' split
  all_goals simp

@[simp] theorem State.finish_fill (r : Reader) (o : CardOutcome) (c : Nat) (b : Option Int) :
    (s.finish r o c b).store.fill = s.store.fill := by
  unfold State.finish
  simp only []
  split <;> simp

@[simp] theorem State.stagingDone_fill (b : Bool) : (s.stagingDone b).store.fill = s.store.fill := by
  unfold State.stagingDone
  split
  · rfl
  · split
    · unfold State.recordProgrammed State.intentProgrammed
      simp only []
      repeat' split
      all_goals simp
    · unfold State.recordFailed State.intentFailed State.endSession
      simp only []
      repeat' split
      all_goals simp
  · unfold State.markReported
    simp only []
    split <;> rfl
  · rfl

@[simp] theorem State.jobOperationDone_fill (b : Bool) (n : Option Nat) :
    (s.jobOperationDone b n).store.fill = s.store.fill := by
  have ha : ∀ n, (s.jobAdvance n).store.fill = s.store.fill := by
    intro n; unfold State.jobAdvance; split
    · rfl
    · split <;> exact Store.fill_eq ⟨rfl, rfl, rfl⟩
  have hd : ∀ (t : State) k, (t.jobDone k).store.fill = t.store.fill := by
    intro t k; unfold State.jobDone; split <;> simp
    exact Store.fill_eq ⟨rfl, rfl, rfl⟩
  unfold State.jobOperationDone
  split
  · rfl
  · split
    · split <;> simp [ha, hd]
    · simp [ha]

@[simp] theorem State.startStore_fill : s.startStore.store.fill = s.store.fill := by
  have ho : ∀ (t : State) a o n, (t.startOp a o n).store.fill = t.store.fill := fun _ _ _ _ => Store.fill_eq ⟨rfl, rfl, rfl⟩
  have hj : ∀ t : State, t.startJob.store.fill = t.store.fill := by
    intro t; unfold State.startJob; split
    · rfl
    · exact Store.fill_eq ⟨rfl, rfl, rfl⟩
  unfold State.startStore
  simp only []
  repeat' split
  all_goals simp [ho, hj]

/-- An operation that ends leaves the store's bytes as it wrote or erased them, or as far as it came, nothing in progress, and
the fill position of its control sector after the last slot that is not blank (R164, R167, R170; log entries 3 and 53). -/
theorem State.endOp_store (ok : Bool) (op : StoreOp) :
    (s.endOp ok op).store.memory =
      (if ok then s.store.memory.carryOut op.action else s.store.memory.tearAction s.free op.action) ∧
    (s.endOp ok op).store.op = none ∧
    (op.action.sector < 3 → (s.endOp ok op).store.fill op.action.sector =
      fillPosition (s.endOp ok op).store.memory op.action.sector) := by
  have hf : ∀ (st : Store) k, k < 3 → (st.refill k).fill k = fillPosition (st.refill k).memory k := by
    intro st k hk
    obtain rfl | rfl | rfl : k = 0 ∨ k = 1 ∨ k = 2 := by omega
    all_goals rfl
  unfold State.endOp
  simp only []
  split <;> exact ⟨by simp, by simp, fun h => hf _ _ h⟩

/-- The report of an operation leaves the store as the operation's end leaves it, whatever its owner does and whichever operation
starts next. -/
theorem State.completeOp_store (ok : Bool) (op : StoreOp) :
    (s.completeOp ok op).store.memory =
      (if ok then s.store.memory.carryOut op.action else s.store.memory.tearAction s.free op.action) ∧
    (op.action.sector < 3 → (s.completeOp ok op).store.fill op.action.sector =
      fillPosition (s.completeOp ok op).store.memory op.action.sector) := by
  have hs : ∀ (t : State) b n, (t.scanProgramDone b n).store = t.store := by
    intro t b n; unfold State.scanProgramDone; split <;> rfl
  obtain ⟨hm, -, hf⟩ := s.endOp_store ok op
  unfold State.completeOp
  simp only []
  cases op.owner <;> simp [hm] <;> first | simpa [hm] using hf | simpa [hs, hm] using hf

/-- A reset tears the operation in progress, or a suspended one, and keeps every other byte (R169; log entry 3). -/
theorem State.tearStore_memory : s.tearStore.store.memory =
    match s.store.op with
    | none => s.store.memory
    | some op => s.store.memory.tearAction s.free op.action := by
  unfold State.tearStore
  cases s.store.op <;> rfl

/-- A reset of any cause keeps the bytes that its tearing leaves (R164, R169). -/
theorem State.beginReset_memory (cause : ResetCause) : (s.beginReset cause).store.memory = s.tearStore.store.memory := rfl

end Sys2Proof.Machine
end

