-- ==== Sys2Proof/WellFormed.lean ====
section
/-! DEFINITION. Well-formed commands: operands that the line, a card or a sensor can carry.

A request's field that the manual tests against a range is not tested here: an out-of-range value is a well-formed
command, which its rule refuses.  What is tested is the width that the manual gives a number: a card number's seven bytes
(section 2.2), a 16-bit counter, a byte, a 32-bit number. -/

namespace Sys2Proof

/-- A number of so many bytes. -/
def fitsBytes (k n : Nat) : Bool := decide (n < 256 ^ k)

/-- A payload whose fields, when it fits, meet a test. -/
def Payload.holds {α : Type} (test : α → Bool) : Payload α → Bool
  | .fits a => test a
  | .misfit => true

/-- A card number: seven bytes. -/
def cardNumberFits (n : Nat) : Bool := fitsBytes 7 n

/-- What a card can answer to IDENTIFY (R4). -/
def CardId.wf (c : CardId) : Bool :=
  cardNumberFits c.number && decide (c.cls ≤ 7) && fitsBytes 1 c.keyVersion && fitsBytes 2 c.counter

/-- What a card can answer to WRITE or BLOCK (R4). -/
def WriteReply.wf : WriteReply → Bool
  | .accepted c => fitsBytes 2 c
  | .rejected => true

/-- A well-formed command. -/
def Instr.wf : Instr → Bool
  | .loadKey p => p.holds fun f => fitsBytes 1 f.slot && fitsBytes 1 f.presence && fitsBytes 1 f.version
  | .loadFareTablePart p => p.holds fun f => fitsBytes 1 f.index
  | .beginDenyListLoad p => p.holds fun h => fitsBytes 4 h.version
  | .putDenyListEntries p => p.holds fun es => es.all fun e => cardNumberFits e.number
  | .addDenyListEntry p => p.holds fun f => fitsBytes 4 f.expected && cardNumberFits f.number
  | .deleteDenyListEntry p => p.holds fun f => fitsBytes 4 f.expected && cardNumberFits f.number
  | .clearHotListEntry p => p.holds cardNumberFits
  | .notePeerSighting p => p.holds fun f => cardNumberFits f.number
  | .readSighting p => p.holds cardNumberFits
  | .readJournal p => p.holds fun q => fitsBytes 4 q.start
  | .releaseJournal p => p.holds (fitsBytes 4)
  | .unknownKind k => !(decide (1 ≤ k.toNat) && decide (k.toNat ≤ 34))
  | .identifyAnswer _ c => c.wf
  | .writeAnswer _ r => r.wf
  | .blockAnswer _ r => r.wf
  | .queryAnswer _ c => fitsBytes 2 c
  | .honourWindowExpiry n => cardNumberFits n
  | .identifyPart _ | .setIdentity _ | .lockIdentity _ | .setParameters _ | .readParameters _ | .setGateMode _
  | .setAisleDirection _ | .grantPassage _ | .setLeafTarget _ | .clearLeafFaults _ | .setTime _ | .alignTime _
  | .readTime _ | .armStagedFareTable _ | .dropStagedFareTable _ | .readFareTableState _ | .endDenyListLoad _
  | .readDenyListState _ | .readHotList _ | .setNoticeMask _ | .readStatus _ | .clearEvents _ | .restart _
  | .wholeFrame _ | .lengthFieldDiscard _ | .gapLimitExpiry | .messageSent | .powerOn | .supplyDip | .resetLine
  | .resetEnd | .startUpScanEnd | .scanProgramComplete _ | .cardPresent _ | .collision _ | .cardRemoved _
  | .sessionStart _ | .authenticateAnswer _ _ | .readAnswer _ _ | .intentEntersStaging _
  | .pendingRecordEntersStaging _ | .answerWindowExpiry _ | .outcomeDisplayExpiry _ | .emergencyLineFilteredChange
  | .sensorRawChange _ _ _ | .beamFilteredChange _ | .creditExpiry | .closeDelayExpiry | .loiter | .beamStuck _
  | .pendingSettingsTakeEffect | .endSwitchFilteredChange _ _ | .deadtimeExpiry _ | .brakeIntervalExpiry _
  | .motionLimitExpiry _ | .inrushBlankingExpiry _ | .currentSample _ _ | .reopenHoldExpiry _ | .supplyWarningStart
  | .supplyWarningEnd | .secondTick | .fareTableActivation | .denyListLoadTest | .storeOperationTimeout
  | .journalOperationComplete _ | .floorProgramComplete _ | .journalSectorEraseComplete _
  | .hotListRewriteComplete _ | .controlRecordWriteComplete _ | .lockEntryProgramComplete _
  | .deltaSlotProgramComplete _ | .armJobOperationComplete _ | .fareMarkJobComplete _ | .withdrawalComplete _
  | .bankJobOperationComplete _ | .denyMarkJobComplete _ | .logEraseComplete _ | .linkByteReceived _
  | .startUpScanStepEnd | .backupSupplyLoss | .mainSupplyLoss => true

end Sys2Proof
end

