-- ==== Sys2Proof/Tests/Slice0.lean ====
section
/-! SUPPORT. The author's own tests: the checks of WellFormed, the manual's worked examples, and a witness for the
hypotheses of every statement that has any. -/

namespace Sys2Proof.Tests
open Sys2Proof Sys2Proof.Machine

-- One after the other: each `decide` waits for the kernel, and a hundred waiting threads want too much stack.
set_option Elab.async false

/-! ## WellFormed: for each check an ill-formed term that it refuses, and the greatest value that it accepts -/

theorem test_wf_loadKey :
    Instr.wf (.loadKey (.fits { slot := 256, presence := 0, version := 0, key := 0 })) = false ∧
    Instr.wf (.loadKey (.fits { slot := 0, presence := 256, version := 0, key := 0 })) = false ∧
    Instr.wf (.loadKey (.fits { slot := 0, presence := 0, version := 256, key := 0 })) = false ∧
    Instr.wf (.loadKey (.fits { slot := 255, presence := 255, version := 255, key := 0 })) = true := by decide

theorem test_wf_loadFareTablePart :
    Instr.wf (.loadFareTablePart (.fits { index := 256, bytes := [] })) = false ∧
    Instr.wf (.loadFareTablePart (.fits { index := 255, bytes := [] })) = true := by decide

theorem test_wf_beginDenyListLoad :
    Instr.wf (.beginDenyListLoad (.fits { version := 4294967296, count := 0 })) = false ∧
    Instr.wf (.beginDenyListLoad (.fits { version := 4294967295, count := 9000 })) = true := by decide

theorem test_wf_putDenyListEntries :
    Instr.wf (.putDenyListEntries (.fits [{ number := 72057594037927936, reason := 0 }])) = false ∧
    Instr.wf (.putDenyListEntries (.fits [{ number := 72057594037927935, reason := 16 }])) = true := by decide

theorem test_wf_addDenyListEntry :
    Instr.wf (.addDenyListEntry (.fits { expected := 4294967296, number := 1, reason := 0 })) = false ∧
    Instr.wf (.addDenyListEntry (.fits { expected := 0, number := 72057594037927936, reason := 0 })) = false ∧
    Instr.wf (.addDenyListEntry (.fits { expected := 4294967295, number := 72057594037927935, reason := 99 })) = true := by
  decide

theorem test_wf_deleteDenyListEntry :
    Instr.wf (.deleteDenyListEntry (.fits { expected := 4294967296, number := 1 })) = false ∧
    Instr.wf (.deleteDenyListEntry (.fits { expected := 0, number := 72057594037927936 })) = false := by decide

theorem test_wf_cardNumbers :
    Instr.wf (.clearHotListEntry (.fits 72057594037927936)) = false ∧
    Instr.wf (.readSighting (.fits 72057594037927936)) = false ∧
    Instr.wf (.honourWindowExpiry 72057594037927936) = false ∧
    Instr.wf (.notePeerSighting (.fits { number := 72057594037927936, counter := 0, station := 0, gate := 0, minute := 0,
                                         direction := none, seenAt := 0 })) = false ∧
    Instr.wf (.readSighting (.fits 72057594037927935)) = true ∧ Instr.wf (.readSighting .misfit) = true := by decide

theorem test_wf_journal :
    Instr.wf (.readJournal (.fits { start := 4294967296, count := 1 })) = false ∧
    Instr.wf (.releaseJournal (.fits 4294967296)) = false ∧
    Instr.wf (.releaseJournal (.fits 4294967295)) = true := by decide

theorem test_wf_unknownKind :
    Instr.wf (.unknownKind 1) = false ∧ Instr.wf (.unknownKind 34) = false ∧
    Instr.wf (.unknownKind 0) = true ∧ Instr.wf (.unknownKind 35) = true := by decide

theorem test_wf_identifyAnswer :
    Instr.wf (.identifyAnswer .zero { number := 72057594037927936, cls := 0, status := .active, keyVersion := 0, counter := 0 })
      = false ∧
    Instr.wf (.identifyAnswer .zero { number := 1, cls := 8, status := .active, keyVersion := 0, counter := 0 }) = false ∧
    Instr.wf (.identifyAnswer .zero { number := 1, cls := 0, status := .active, keyVersion := 256, counter := 0 }) = false ∧
    Instr.wf (.identifyAnswer .zero { number := 1, cls := 0, status := .active, keyVersion := 0, counter := 65536 }) = false ∧
    Instr.wf (.identifyAnswer .zero { number := 1, cls := 7, status := .active, keyVersion := 255, counter := 65535 })
      = true := by decide

theorem test_wf_counters :
    Instr.wf (.writeAnswer .one (.accepted 65536)) = false ∧ Instr.wf (.blockAnswer .one (.accepted 65536)) = false ∧
    Instr.wf (.queryAnswer .one 65536) = false ∧ Instr.wf (.writeAnswer .one .rejected) = true ∧
    Instr.wf (.queryAnswer .one 65535) = true := by decide

/-! ## Check codes: the published check values of the two generators for the ASCII digits 1 to 9 -/

def digits : List Byte := [0x31#8, 0x32#8, 0x33#8, 0x34#8, 0x35#8, 0x36#8, 0x37#8, 0x38#8, 0x39#8]

theorem test_crc16_digits : crc16 digits = 0x29B1 := by decide +kernel
theorem test_crc32_digits : crc32 digits = 0xCBF43926 := by decide +kernel

/-! ## The clock and the schedule (section 7, "from a count to a band") -/

theorem test_calendar_of_the_example :
    calendarOf 794910000 = { year := 2025, month := 3, day := 11, hour := 8, minute := 20, second := 0 } ∧
    weekdayOf 794910000 = 1 ∧ fareMinute 794910000 = 13248500 ∧ serviceDay 4 13248500 = 9200 ∧
    countOf { year := 2025, month := 3, day := 11, hour := 8, minute := 20, second := 0 } = 794910000 := by decide +kernel

theorem test_calendar_ends :
    calendarOf 0 = { year := 2000, month := 1, day := 1, hour := 0, minute := 0, second := 0 } ∧
    calendarOf 3155673599 = { year := 2099, month := 12, day := 31, hour := 23, minute := 59, second := 59 } ∧
    calendarOf (10285 * 86400) = { year := 2028, month := 2, day := 29, hour := 0, minute := 0, second := 0 } ∧
    badDateField { year := 2026, month := 2, day := 29, hour := 0, minute := 0, second := 0 } = some 2 := by decide +kernel

def entry (band month day weekday first last : Nat) : ScheduleEntry :=
  { used := 1, band := band, month := month, day := day, weekday := weekday, hourFirst := first, hourLast := last }

/-- The schedule of the example. -/
def schedule : List ScheduleEntry :=
  [entry 2 12 25 7 0 23, entry 1 0 0 0 7 9, entry 1 0 0 1 7 9, entry 1 0 0 2 7 9, entry 1 0 0 3 7 9, entry 1 0 0 4 7 9,
   entry 1 0 0 0 17 19, entry 1 0 0 1 17 19, entry 1 0 0 2 17 19, entry 1 0 0 3 17 19, entry 1 0 0 4 17 19,
   entry 3 0 0 7 0 5]

theorem test_bands_of_the_example :
    bandFor schedule 13248500 = 1 ∧ bandFor schedule (1440 * 9201 + 150) = 3 ∧ bandFor schedule (1440 * 9204 + 500) = 0 ∧
    bandFor schedule (1440 * 9200 + 600) = 0 ∧ bandFor schedule (1440 * 9489 + 500) = 2 ∧
    bandFor schedule (1440 * 10285 + 1080) = 1 := by decide +kernel

/-! ## The Fare Engine's worked cases (section 3) -/

/-- Row 2 of the matrix: 300 toward zone 4, 340 toward zone 5, 520 toward zone 7, 980 toward zone 15. -/
def matrix : List Nat := List.replicate 32 0 ++ [0, 0, 0, 0, 300, 340, 0, 520, 0, 0, 0, 0, 0, 0, 0, 980]

/-- The table of the worked cases, with the schedule of section 7's example. -/
def caseTable : FareTable :=
  { version := 5, effective := 0, step := 10, rollover := 4, maxContinuations := 2, bandPercent := [100, 125],
    classPercent := [100, 50], cap := [1200, 400], overstayLimit := 180, overstaySurcharge := 500, entryMinimum := 150,
    overdraft := 200, tripExpiry := 300, penalty := 700, continuationWindow := 30, passbackInterval := 5,
    sameStationGrace := 20, fareMatrix := matrix, schedule := schedule }

/-- The card of the worked sequence before its journey. -/
def imageBefore : CardImage :=
  { (default : CardImage) with
    format := 1, trip := 2, balance := 2000, originStation := 96, originZone := 3, journeyZone := 3,
    entryMinute := 13247350, journeyStation := 96, journeyStart := 13247350, journeyCharged := 260,
    lastExitStation := 118, lastExitMinute := 13247400, serviceDay := 9199, dayTotal := 420, writerStation := 118,
    writerGate := 5, writerMinute := 13247400 }

def caseAt (station gate zone now : Nat) (i : CardImage) : FareCase :=
  { table := caseTable, here := { station := station, gate := gate, zone := zone }, now := now, cls := 0, image := i }

/-- What a ruling writes and charges: balance, journey charged, day total, fare, charge, continuations. -/
def shown : Ruling → List Int
  | .accept d => [d.image.balance, d.image.journeyCharged, d.image.dayTotal, d.fare, d.charge, d.image.continuations]
  | .refuse _ _ _ _ => []

def imageOr (i : CardImage) : Ruling → CardImage
  | .accept d => d.image
  | .refuse _ _ _ _ => i

def image1 : CardImage := imageOr default (entryDecision (caseAt 210 12 2 13248500 imageBefore))
def image2 : CardImage := imageOr default (exitDecision (caseAt 305 4 5 13248538 image1))
def image3 : CardImage := imageOr default (entryDecision (caseAt 311 7 4 13248555 image2))
def image4 : CardImage := imageOr default (exitDecision (caseAt 402 2 7 13248601 image3))

/-- The images of steps 1 and 4 of the worked journey, field by field. -/
theorem test_journey_images :
    image1 = { imageBefore with
      trip := 1, originStation := 210, originZone := 2, entryMinute := 13248500, journeyStation := 210, journeyZone := 2,
      journeyStart := 13248500, band := 1, continuations := 0, journeyCharged := 0, serviceDay := 9200, dayTotal := 0,
      writerStation := 210, writerGate := 12, writerMinute := 13248500 } ∧
    image4 = { image1 with
      trip := 2, balance := 1350, originStation := 311, originZone := 4, entryMinute := 13248555, continuations := 1,
      journeyCharged := 650, lastExitStation := 402, lastExitMinute := 13248601, dayTotal := 650, writerStation := 402,
      writerGate := 2, writerMinute := 13248601 } := by decide +kernel

theorem test_journey_charges :
    shown (exitDecision (caseAt 305 4 5 13248538 image1)) = [1570, 430, 430, 430, 430, 0] ∧
    shown (entryDecision (caseAt 311 7 4 13248555 image2)) = [1570, 430, 430, 0, 0, 1] ∧
    shown (exitDecision (caseAt 402 2 7 13248601 image3)) = [1350, 650, 650, 650, 220, 1] := by decide +kernel

theorem test_passback_and_already_exited :
    entryDecision (caseAt 210 12 2 13248504 image1) = .refuse .passback 0 0 0 ∧
    exitDecision (caseAt 305 4 5 13248542 image2) = .refuse .alreadyExited 0 0 430 := by decide +kernel

/-- Case 1: a child's second leg reaches the cap.  Case 10: an unclosed trip at entry. -/
theorem test_cases_1_and_10 :
    shown (exitDecision
      { caseAt 305 4 5 13248547 { image1 with journeyCharged := 120, dayTotal := 350, balance := 1230, continuations := 1 } with
        cls := 1 }) = [1180, 170, 400, 210, 50, 1] ∧
    entryDecision (caseAt 311 7 4 13252820 { image1 with balance := 1100 }) = .refuse .insufficient 980 980 0 ∧
    shown (entryDecision (caseAt 311 7 4 13252820 { image1 with balance := 1200 })) =
      [220, 0, 980, 980, 980, 0] := by decide +kernel

/-- Cases 4 and 6: the greatest fare and the overdraft floor. -/
theorem test_cases_4_and_6 :
    nominalFare 20000 250 100 = 50000 ∧ stepFare 25 50000 = 50000 ∧ stepFare 20 (nominalFare 250 100 100) = 260 ∧
    capCharge 400 350 90 = 50 ∧ capCharge 300 350 90 = 0 ∧ capCharge 0 0 55000 = 55000 ∧ saturate 65830 = 65535 ∧
    exitDecision (caseAt 305 4 5 13248538 { image1 with balance := 150 }) = .refuse .insufficient 430 430 0 := by
  decide +kernel


/-! ## A 520 in service -/

/-- The machine of the tests below: in service, mode NORMAL, both leaves CLOSED at their closed ends, nothing waiting; the
first moment of 11 March 2025, 08:20. -/
def ready : State :=
  { State.reset with
    phase := .running, scanStep := 0,
    clock := { seconds := 794910000, valid := true, loss := false, boundary := 1000000 }, fare := some caseTable,
    station := { identity := some { station := 210, gate := 12, zone := 2 }, lock := .unlocked, spent := 0, nextLock := 0 },
    aisle := { State.reset.aisle with mode := .normal, returnMode := .normal, target := .closed },
    drive := { left := { Leaf.initial 0 false true with state := .closed, closedSwitch := ⟨true, true, none⟩ },
               right := { Leaf.initial 0 false true with state := .closed, closedSwitch := ⟨true, true, none⟩ },
               inForce := .closed },
    journal := { State.reset.journal with sectors := [.current, .erased], nextSeq := 9, newestAssigned := 8 } }

/-- The same machine in another mode. -/
def inMode (m : GateMode) : State := { ready with aisle := { ready.aisle with mode := m, returnMode := m } }

/-- A message for the output queue. -/
def report : OutMessage := .nout .U 5 .lost 0 none

/-- The same machine with so many messages waiting. -/
def waiting (n : Nat) : State := { ready with link := { ready.link with output := List.replicate n report } }

/-- The state after a command. -/
def after (c : Instr) (s : State) : State :=
  match exec c s with
  | .next t => t
  | .fault _ => s
  | .refused _ => s

/-- In service, with no frame waiting, every request is taken. -/
theorem ready_serves (c : Instr) (h : (requestKindOf c).isSome = true) : ready.serves c := by
  refine ⟨rfl, ?_⟩
  unfold State.takesRequest
  cases h' : requestKindOf c with
  | none => rw [h'] at h; cases h
  | some kind => rfl

theorem mode_serves (m : GateMode) (c : Instr) (h : (requestKindOf c).isSome = true) : (inMode m).serves c := by
  refine ⟨rfl, ?_⟩
  unfold State.takesRequest
  cases h' : requestKindOf c with
  | none => rw [h'] at h; cases h
  | some kind => rfl

/-! ## Witnesses: the machine and the port -/

theorem witness_StepRunsTheFrontCommand :
    { ready with pending := [.secondTick, .loiter] }.pending = .secondTick :: [.loiter] ∧ ready.pending = [] := by
  exact ⟨rfl, rfl⟩

theorem witness_CommandsTouchOnlyTheirBlocks :
    (∃ t, exec .secondTick ready = .next t ∧ Block.aisle ∉ blocksOf .secondTick) ∧
    (∃ t, exec (.cardPresent .zero) ready = .next t ∧ readerOfCommand ready (.cardPresent .zero) = some .U) ∧
    ∃ t, exec (.currentSample .left 5) ready = .next t ∧ leafOfCommand (.currentSample .left 5) = some .left :=
  ⟨⟨_, rfl, by decide⟩, ⟨_, rfl, by decide⟩, ⟨_, rfl, by decide⟩⟩

/-- An input queue of so many frames, with the receiver hunting. -/
def queued (n : Nat) : State :=
  { ready with link := { ready.link with input := List.replicate n { kind := 14, payload := [] } } }

theorem witness_RequestsBeforeTheirRule :
    requestKindOf (.readTime .misfit) = some 14#8 ∧ State.reset.phase = .scanning ∧
    State.reset.takesRequest (.readTime .misfit) = true ∧ (queued 1).takesRequest (.readTime (.fits ())) = true ∧
    payloadFits (.identifyPart .misfit) = false ∧ State.reset.takesRequest (.identifyPart .misfit) = true ∧
    payloadFits (.setParameters []) = false ∧ payloadFits (.setParameters (List.replicate 321 0)) = false ∧
    payloadFits (.setParameters (List.replicate 320 0)) = true ∧
    (waiting 13).takesRequest (.loadFareTablePart (.fits { index := 0, bytes := List.replicate 127 0 })) = true ∧
    spelledBy (.readHotList (.fits 63)) [63#8] = true ∧ spelledBy (.readHotList .misfit) [] = true ∧
    1 ≤ (1#8).toNat ∧ (34#8).toNat ≤ 34 ∧
    (queued 1).link.input = { kind := 14, payload := [] } :: [] ∧ requestKindOf (.identifyPart (.fits ())) ≠ some 14#8 ∧
    spelledBy (.readTime .misfit) [] = false := by decide +kernel

/-- The length that a presence byte or a count gives (R200), and the bytes behind the length (section 11.5). -/
theorem test_payload_lengths :
    keyPayload [1, 0] = .fits { slot := 1, presence := 0, version := 0, key := 0 } ∧ keyPayload [1, 1] = .misfit ∧
    entriesPayload [1, 9, 0, 0, 0, 0, 0, 0, 4] = .fits [{ number := 9, reason := 4 }] ∧
    entriesPayload [2, 9, 0, 0, 0, 0, 0, 0, 4] = .misfit ∧ loadPayload [1, 1, 0, 0, 0, 32] =
      .fits { version := 257, count := 8192 } := by decide +kernel

theorem witness_FramesWaitOrAreUnknown :
    14 ≤ (waiting 14).link.output.length ∧
    { ready with link := { ready.link with restartPending := true } }.link.restartPending = true ∧
    (requestKindOf (.readTime (.fits ()))).isSome = true ∧
    (waiting 13).portTakes 0#8 (fun _ => true) = true ∧ 34 < (35#8).toNat ∧
    ready.portTakes 35#8 (fun _ => true) = true := by decide +kernel

theorem witness_MessagesAndEventsEnter :
    report ≠ .natt none ∧ ready.link.output.head? ≠ some (.natt none) ∧ ready.link.mask.getLsbD 29 = false ∧
    (let s := waiting 11
     let masked : State := { s with link := { s.link with mask := 0x20000004#32 } }
     masked.link.mask.getLsbD 29 = true ∧ masked.link.output.length < 12 ∧
     masked.link.flag .clone = false ∧ masked.link.mask.getLsbD EventKind.clone.bit = true ∧
     .natt none ∉ masked.link.output) ∧
    (let s := waiting 12
     { s with link := { s.link with mask := 0x20000000#32 } }.link.mask.getLsbD 29 = true ∧ 12 ≤ s.link.output.length) ∧
    State.reset.link.flag .reset = true := by decide +kernel

/-- A receiver that holds the given bytes. -/
def holding (bs : List Byte) : State :=
  { ready with link := { ready.link with receiver := .inFrame bs, gap := some 50000 } }

theorem witness_ReceiverDiscards :
    ready.phase.linkRuns = true ∧ ready.link.receiver = .hunting ∧ (holding [0]).link.receiver = .inFrame [0#8] ∧
    leNat [0#8, 0#8] = 0 ∧ leNat [0x82#8, 2#8] = 642 ∧ leNat [0x81#8, 2#8] = 641 ∧
    (holding [0]).link.gap = some 50000 ∧
    (let bs : List Byte := [1, 0, 14, 0]
     4 ≤ bs.length ∧ bs.length + 1 = field bs 0 2 + 4 ∧
     field (bs ++ [0]) (bs.length - 1) 2 ≠ crc16 (bs.take (bs.length - 1))) := by decide +kernel

theorem witness_WholeFrameIsReceived :
    (queued 3).phase.linkRuns = true ∧ (queued 3).link.receiver = .hunting ∧ (queued 3).link.input.length < 4 ∧
    4 ≤ (queued 4).link.input.length ∧ (List.replicate 640 (0 : Byte)).length ≤ 640 ∧
    (let f : Frame := { kind := 14, payload := [] }
     f.onLine = 0xC3#8 :: ((f.onLine.tail.take 4) ++ [f.onLine.getLast?.getD 0]) ∧
     (holding (f.onLine.tail.take 4)).link.receiver = .inFrame (f.onLine.tail.take 4)) := by decide +kernel

/-- One frame byte by byte: `rtime` as section 11.1 lays it out, with its check by CRC-16. -/
theorem test_frame_received :
    (after (.wholeFrame (BitVec.ofNat 8 (crc16 [1, 0, 14] / 256))) (holding [1, 0, 14, BitVec.ofNat 8 (crc16 [1, 0, 14])])).link.input
      = [{ kind := 14, payload := [] }] := by decide +kernel

theorem witness_MessageSentFreesItsPlace :
    (waiting 2).link.output = report :: [report] ∧ (waiting 2).link.restartPending = false ∧
    (let s : State := { ready with link := { ready.link with
       output := [.reply 0xA2#8 .done .none, .natt none], restartPending := true } }
     s.link.output = .reply 0xA2#8 .done .none :: [.natt none] ∧ s.link.restartPending = true) ∧
    (waiting 2).phase.linkRuns = true := by decide +kernel

/-- The frame of a reply: sync byte, length, kind, the status byte, the check (R197, R202). -/
theorem test_transmitted :
    { ready with link := { ready.link with output := [.reply 0xA2#8 .full .none] } }.transmitted =
      0xC3#8 :: withCrc16 [2#8, 0#8, 0xA2#8, 9#8] ∧
    (OutMessage.natt (some 0x00000401#32)).payload = [1#8, 4#8, 0#8, 0#8] := by decide +kernel

/-- The count before the waiting jobs of `stat` holds more than a byte does. -/
theorem test_waiting_jobs_count : (countedWide (fun (_ : Nat) => []) (List.replicate 300 0)) = [44#8, 1#8] := by decide +kernel

/-- A READY reader, one whose last outcome is shown, and one at which a collision's STOP runs. -/
def showing (o : CardOutcome) : State :=
  ready.onSession .U fun x => { x with state := .holdoff, outcome := some o, display := some 1500000 }

/-- The items of `rparm` stand one behind the other, each with its presence byte, and the directions follow (R196, R204). -/
theorem test_rparm_payload :
    (ReplyData.settings [{ id := 1, inForce := 20, pending := none }, { id := 2, inForce := 0, pending := some 1 }] .both
        (some .entryOnly)).bytes =
      [20, 0, 0, 0, 0] ++ [0, 0, 0, 0, 1, 1, 0, 0, 0] ++ [2, 1, 0] := by decide

theorem witness_ReportsAnswerDone :
    State.reset.takesRequest (.identifyPart (.fits ())) = true ∧ ready.takesRequest (.readStatus (.fits ())) = true ∧
    ready.serves (.readParameters (.fits ())) ∧ ready.serves (.readFareTableState (.fits ())) ∧
    ready.serves (.readDenyListState (.fits ())) :=
  ⟨rfl, rfl, ready_serves _ rfl, ready_serves _ rfl, ready_serves _ rfl⟩

/-- R21 on single states: an outcome's code, and the STOP of a collision, which has its own reason. -/
theorem test_indicator :
    (showing .admittedEntry).indicator .U = .go ∧ (showing .torn).indicator .U = .seeStaff ∧
    (showing .aisleBusy).indicator .U = .stop ∧ ((showing .aisleBusy).indication .U).reason = none ∧
    ready.indicator .U = .closed ∧
    (let s := ready.onSession .U fun x => { x with state := .ready, collision := some 1500000 }
     s.indication .U = { code := .stop, reason := some .multipleCards }) := by decide +kernel

/-- The clock at its limit. -/
def atLimit : State := { ready with clock := { ready.clock with seconds := 3155673599 } }

theorem witness_ReadTimeDescribesOneCount : atLimit.serves (.readTime (.fits ())) ∧ atLimit.clock.seconds ≤ 3155673599 :=
  ⟨⟨rfl, rfl⟩, by decide⟩

/-! ## Witnesses: identity, keys, settings, mode, passage, leaves -/

def slotOf (v : Nat) : Option KeySlot := some { version := v, key := 0 }

theorem witness_IdentityAndKeyRequests :
    (inMode .outOfService).serves (.setIdentity (.fits { station := 1, gate := 1, zone := 0 })) ∧ (inMode .outOfService).station.lock = .unlocked ∧
    (inMode .outOfService).atBoundary = true ∧ ready.serves (.lockIdentity (.fits ())) ∧ ready.station.identity ≠ none ∧
    ready.serves (.loadKey (.fits { slot := 0, presence := 1, version := 4, key := 0 })) ∧ ready.aisle.mode ≠ .outOfService ∧
    (let s : State := { inMode .outOfService with check := { Check.initial [] with key1 := slotOf 3 } }
     s.serves (.loadKey (.fits { slot := 0, presence := 1, version := 4, key := 0 })) ∧ s.check.key1.map (·.version) = some 3 ∧ s.check.key1.map (·.version) ≠ some 4) := by
  exact ⟨mode_serves _ _ rfl, rfl, rfl, ready_serves _ rfl, by decide, ready_serves _ rfl, by decide, ⟨rfl, rfl⟩, rfl, by decide⟩

theorem test_setid : (after (.setIdentity (.fits { station := 4095, gate := 63, zone := 15 })) (inMode .outOfService)).station.identity
    = some { station := 4095, gate := 63, zone := 15 } ∧
    (after (.setIdentity (.fits { station := 4095, gate := 64, zone := 15 })) (inMode .outOfService)).link.output =
      [.reply 0x82 .badValue .none] := by decide +kernel

theorem test_ldkey : (after (.loadKey (.fits { slot := 1, presence := 1, version := 7, key := 9 })) (inMode .outOfService)).check.key1
    = some { version := 7, key := 9 } := by decide +kernel

theorem witness_SetParametersTakesAllOrNone :
    ready.serves (.setParameters [1, 30, 0, 0, 0]) ∧ settingPairs [1, 30, 0, 0, 0] = some [(1, 30)] ∧ badCode (1, 30) = false ∧
    settingPairs [30, 1, 0, 0, 0] = some [(30, 1)] ∧
    settingPairs (List.replicate 320 1) = some (List.replicate 64 (1, 16843009)) ∧
    { ready with aisle := { ready.aisle with phase := .inA } }.holdMet = false := by
  refine ⟨ready_serves _ rfl, ?_, ?_, ?_, ?_, ?_⟩ <;> decide +kernel

/-- `gparm`: an answer window above its greatest value of 50 ms is clamped (section 11.4). -/
theorem test_gparm_clamps :
    (after (.setParameters [1, 44, 1, 0, 0]) ready).link.output = [.reply 0x85 .clamped (.storedValues [(1, 50)])] ∧
    (after (.setParameters [1, 44, 1, 0, 0]) ready).settings.inForce.answerWindow = 50 := by decide +kernel

/-- `gparm` in a passage: the fail-open setting is stored and pending (R106). -/
theorem test_gparm_pends :
    let t := after (.setParameters [21, 0, 0, 0, 0]) { ready with aisle := { ready.aisle with phase := .inA } }
    t.settings.stored.failOpen = 0 ∧ t.settings.inForce.failOpen = 1 ∧ t.settings.pending = [21] ∧
    t.store.jobs.map (·.kind) = [.control .settings] := by decide +kernel

theorem witness_ModeAndDirectionRequests :
    ready.serves (.setGateMode (.fits (some .emergency))) ∧ ready.serves (.setAisleDirection (.fits (some .entryOnly))) ∧ ready.holdMet = true ∧ ready.settings.pending = [] ∧
    { ready with aisle := { ready.aisle with phase := .inA } }.holdMet = false ∧
    (after (.setGateMode (.fits (some .emergency))) ready).aisle.mode ≠ ready.aisle.mode ∧
    (after (.setGateMode (.fits (some .emergency))) ready).aisle.mode = .emergency ∧
    (after (.setGateMode (.fits (some .normal))) ready).aisle.mode = ready.aisle.mode ∧
    excludes .entryOnly (directionOfReader .P) = true ∧ excludes .entryOnly (directionOfReader .U) = false ∧
    ((ready.onSession .P fun x => { x with state := .authenticating }).session .P).state = .authenticating := by
  refine ⟨ready_serves _ rfl, ready_serves _ rfl, ?_, ?_, ?_, ?_, ?_, ?_, ?_, ?_, ?_⟩ <;> decide +kernel

/-- A direction that takes effect ends the excluded reader's session, and opens the other reader (R7, R24, R89). -/
theorem test_adir :
    let t := after (.setAisleDirection (.fits (some .entryOnly))) (ready.onSession .P fun x => { x with state := .authenticating })
    t.aisle.direction = .entryOnly ∧ (t.session .P).outcome = some .aborted ∧ (t.session .U).state = .ready ∧
    t.link.output = [.reply 0x88#8 .done .none] := by decide +kernel

/-- A claim held inbound by so many ACTIVE credits. -/
def credited (n : Nat) : State :=
  { ready with aisle := { ready.aisle with
    claim := some .inbound,
    credits := List.replicate n { direction := .inbound, source := .card, state := .active, seq := some 4, reader := some .U },
    window := .running 8000000 } }

theorem witness_GrantAddsOneStaffCredit :
    (inMode .emergency).serves (.grantPassage (.fits (some .inbound))) ∧ (inMode .emergency).aisle.mode ≠ .normal ∧
    (inMode .emergency).aisle.mode ≠ .manual ∧ ready.serves (.grantPassage (.fits (some .inbound))) ∧ ready.aisle.mode = .normal ∧
    (ready.journal.staging.length + ready.journal.reservations < 8 ∧
      ready.journal.sectors[ready.journal.writePos / 64]? = some .current ∧ ready.journal.nextSeq ≤ 4294967295) ∧
    ready.aisle.claim = none ∧
    (credited 3).aisle.claim = some .inbound ∧ (credited 3).aisle.credits.length < (credited 3).settings.inForce.groupCredits ∧
    (credited 4).settings.inForce.groupCredits ≤ (credited 4).aisle.credits.length ∧
    State.reset.journal.sectors[State.reset.journal.writePos / 64]? ≠ some .current ∧ (credited 4).aisle.claim = some (otherWay .outbound) := by
  refine ⟨mode_serves _ _ rfl, ?_, ?_, ready_serves _ rfl, ?_, ?_, ?_, ?_, ?_, ?_, ?_, ?_⟩ <;> decide +kernel

theorem test_grant_opens :
    (after (.grantPassage (.fits (some .outbound))) ready).drive.left.state = .opening ∧
    (after (.grantPassage (.fits (some .outbound))) ready).link.output = [.reply 0x89 .done (.sequence 9)] ∧
    (after (.grantPassage (.fits (some .outbound))) ready).journal.nextSeq = 10 := by decide +kernel

/-- The left leaf replaced. -/
def withLeft (f : Leaf → Leaf) (s : State) : State := { s with drive := { s.drive with left := f s.drive.left } }

theorem witness_LeafRequests :
    ready.serves (.setLeafTarget (.fits (some .open))) ∧ ready.aisle.mode ≠ .manual ∧ (inMode .manual).serves (.setLeafTarget (.fits (some .open))) ∧ (inMode .manual).aisle.mode = .manual ∧
    (inMode .manual).supplyWarning = false ∧ ready.serves (.clearLeafFaults (.fits ())) ∧ (ready.drive.leaf .right).faulted = false ∧
    ((withLeft (fun l => { l with state := .stalled }) ready).drive.leaf .left).faulted = true ∧
    ((withLeft (fun l => { l with state := .stalled, openSwitch := ⟨true, true, none⟩ }) ready).drive.leaf .left).bothActive
      = true := by
  refine ⟨ready_serves _ rfl, ?_, mode_serves _ _ rfl, ?_, ?_, ready_serves _ rfl, ?_, ?_, ?_⟩ <;> decide

theorem test_leaf_open : (after (.setLeafTarget (.fits (some .open))) (inMode .manual)).drive.right.state = .opening := by
  decide +kernel

theorem test_lclr :
    (after (.clearLeafFaults (.fits ())) (withLeft (fun l => { l with state := .stalled, count := 3 }) ready)).drive.left.state
      = .closed := by decide +kernel

/-! ## Witnesses: the clock, the tables and the lists -/

/-- A session that stands in a decision interval. -/
def deciding : State := ready.onSession .U fun x => { x with
  state := .awaitIntent, decision := some { image := imageBefore, kind := .entry, unclosed := false, fare := 0, charge := 0,
                                            direction := .inbound, minute := 13248500 } }

theorem witness_SetAndAlignTime :
    ready.serves (.setTime (.fits { year := 2026, month := 3, day := 1, hour := 0, minute := 0, second := 0 })) ∧ badDateField { year := 2100, month := 1, day := 1, hour := 0, minute := 0, second := 0 } = some 0 ∧
    badDateField { year := 2099, month := 12, day := 31, hour := 23, minute := 59, second := 59 } = none ∧
    deciding.serves (.setTime (.fits { year := 2026, month := 3, day := 1, hour := 0, minute := 0, second := 0 })) ∧ deciding.atBoundary = false ∧ ready.atBoundary = true ∧ ready.serves (.alignTime (.fits ())) ∧
    ready.clock.valid = true ∧ State.reset.clock.valid = false ∧ atLimit.clock.seconds / 60 = 52594559 ∧
    30 ≤ atLimit.clock.seconds % 60 := by
  refine ⟨ready_serves _ rfl, ?_, ?_, ⟨rfl, rfl⟩, ?_, ?_, ready_serves _ rfl, ?_, ?_, ?_, ?_⟩ <;> decide +kernel

theorem test_stime :
    (after (.setTime (.fits { year := 2000, month := 1, day := 1, hour := 0, minute := 1, second := 0 })) ready).clock.seconds = 60 := by
  decide +kernel

/-- Half a minute is aligned up, 29 seconds down, and the calendar's last half minute down (R138). -/
theorem test_atime :
    (after (.alignTime (.fits ())) { ready with clock := { ready.clock with seconds := 90 } }).clock.seconds = 120 ∧
    (after (.alignTime (.fits ())) { ready with clock := { ready.clock with seconds := 89 } }).clock.seconds = 60 ∧
    (after (.alignTime (.fits ())) atLimit).clock.seconds = 3155673540 := by decide +kernel

def part (i : Nat) : FarePart := { index := i, bytes := List.replicate 128 0 }

theorem witness_FareTableUploadRequests :
    ready.serves (.loadFareTablePart (.fits (part 7))) ∧ (part 7).bytes.length = 128 ∧ ready.loader.parts.length = 8 ∧ ready.serves (.armStagedFareTable (.fits ())) ∧
    ready.serves (.dropStagedFareTable (.fits ())) := by
  exact ⟨ready_serves _ rfl, rfl, rfl, ready_serves _ rfl, ready_serves _ rfl⟩

theorem test_ftpart_order :
    (after (.loadFareTablePart (.fits (part 7))) ready).link.output = [.reply 0x8F .order (.parts [])] ∧
    (after (.loadFareTablePart (.fits (part 8))) ready).link.output = [.reply 0x8F .badValue (.parts [])] ∧
    (after (.loadFareTablePart (.fits (part 0))) ready).link.output = [.reply 0x8F .done (.parts [0])] := by decide +kernel

theorem witness_DenyListLoadRequests : ready.serves (.beginDenyListLoad (.fits { version := 1, count := 8192 })) ∧ ready.serves (.putDenyListEntries (.fits [])) ∧ ready.serves (.endDenyListLoad (.fits ())) :=
  ⟨ready_serves _ rfl, ready_serves _ rfl, ready_serves _ rfl⟩

theorem test_dlbeg_limit :
    (after (.beginDenyListLoad (.fits { version := 1, count := 8192 })) ready).loader.load = .loading ∧
    (after (.beginDenyListLoad (.fits { version := 1, count := 8193 })) ready).link.output = [.reply 0x93 .badValue .none] ∧
    (after (.beginDenyListLoad (.fits { version := 0, count := 0 })) ready).link.output = [.reply 0x93 .stale .none] := by
  decide +kernel

theorem witness_DenyListDeltas : ready.serves (.addDenyListEntry (.fits { expected := 0, number := 7, reason := 15 })) ∧ ready.serves (.deleteDenyListEntry (.fits { expected := 0, number := 7 })) := ⟨ready_serves _ rfl, ready_serves _ rfl⟩

theorem test_dladd :
    (after (.addDenyListEntry (.fits { expected := 0, number := 7, reason := 15 }))
      { ready with loader := { ready.loader with markedBank := some .A } }).check.denyList = [{ number := 7, reason := 15 }] := by
  decide +kernel

/-! ## Witnesses: screening, journal, notices -/

def hot (n : Nat) : HotEntry := { number := n, criterion := .auth, minute := 13248500, since := 0 }

theorem witness_ReadHotListGivesEntriesInOrder : ready.serves (.readHotList (.fits 63)) ∧ ¬ 63 < 63 ∧ 63 < 64 :=
  ⟨ready_serves _ rfl, by decide, by decide⟩

theorem test_hlread :
    (after (.readHotList (.fits 1)) { ready with check := { ready.check with hotList := [hot 3, hot 4] } }).link.output =
      [.reply 0x99 .done (.hotList 2 [hot 4])] := by decide +kernel

def peer (station : Nat) : PeerSighting :=
  { number := 5, counter := 65535, station := station, gate := 63, minute := 52594559, direction := some .inbound,
    seenAt := 794895600 }

/-- Entries seen exactly as long ago as the age, and a second longer. -/
def sighting (seenAt : Nat) : Sighting :=
  { number := 5, counter := 10, stamp := { station := 118, gate := 5, minute := 13248400 }, direction := .inbound,
    seenAt := seenAt, source := .peer }
def sighted (seenAt : Nat) : State := { ready with check := { ready.check with sightings := [sighting seenAt] } }

theorem witness_HotListClearAndPeerSighting :
    ready.serves (.clearHotListEntry (.fits 0)) ∧ ready.serves (.notePeerSighting (.fits (peer 118))) ∧ ready.clock.valid = true ∧ (peer 118).number ≠ 0 ∧
    (peer 4095).station ≤ 4095 ∧ ¬ 1 ≤ (peer 0).station ∧ (peer 118).direction.isSome = true ∧
    (sighted 794895600).serves (.notePeerSighting (.fits (peer 118))) ∧
    { ready with clock := { ready.clock with valid := false } }.clock.valid = false := by
  exact ⟨ready_serves _ rfl, ready_serves _ rfl, rfl, by decide, by decide, by decide, rfl, ⟨rfl, rfl⟩, rfl⟩

/-- The cases of R48: a counter above, one below, and the same counter with another stamp. -/
theorem test_sgnote :
    (sighted 794909000).peerCase (peer 118) = .replaced ∧
    (sighted 794909000).peerCase { peer 118 with counter := 9 } = .older ∧
    (sighted 794909000).peerCase { peer 118 with counter := 10 } = .diverged ∧
    ready.peerCase (peer 118) = .inserted ∧ ready.peerCase { peer 210 with gate := 12 } = .own ∧
    ready.peerCase { peer 118 with seenAt := 794895599 } = .aged := by decide +kernel

theorem witness_ReadSightingSearches :
    (sighted 794895600).serves (.readSighting (.fits 5)) ∧ (sighted 794895600).check.sightings.find? (fun e => e.number == 5) = some (sighting 794895600) ∧
    794910000 - 794895600 ≤ 60 * ready.settings.inForce.sightingAge ∧
    60 * ready.settings.inForce.sightingAge < 794910000 - 794895599 ∧
    (sighted 794895600).check.sightings.find? (fun e => e.number == 6) = none := by
  refine ⟨⟨rfl, rfl⟩, ?_, ?_, ?_, ?_⟩ <;> decide +kernel

def assigned (pos seq : Nat) (st : RecordStatus) : Position :=
  { pos := pos, seq := some seq, status := st, reported := true, unverified := false, released := false }

/-- A journal with records 7 and 8 at its first two positions. -/
def recorded (st : RecordStatus) : State :=
  { ready with journal := { ready.journal with positions := [assigned 0 7 .final, assigned 1 8 st], writePos := 2 } }

theorem witness_JournalRequests :
    (recorded .final).serves (.readJournal (.fits { start := 0, count := 8 })) ∧ (recorded .final).serves (.releaseJournal (.fits 8)) ∧ (recorded .final).journal.newestAssigned < 9 ∧
    8 ≤ (recorded .final).journal.newestAssigned ∧
    (∃ p ∈ (recorded .intent).journal.unreleased.take 2, p.status = .intent) ∧
    (∀ p ∈ (recorded .final).journal.unreleased.take 2, p.status ≠ .intent ∧ p.unverified = false ∧ p.reported = true) ∧
    (1 ≤ 8 ∧ 8 ≤ 8 ∧ 8 < 9) := by
  refine ⟨⟨rfl, rfl⟩, ⟨rfl, rfl⟩, ?_, ?_, ?_, ?_, ?_⟩ <;> decide +kernel

/-- `jread` behind a DAMAGED position: a start above the oldest record leaves it out, a start of 0 gives it, and a position
that is not reported ends the items (R157). -/
theorem test_jread :
    let s : State := { recorded .final with journal := { (recorded .final).journal with
      positions := [assigned 0 6 .damaged, assigned 1 7 .final, assigned 2 8 .final,
        { assigned 3 9 .intent with reported := false }] } }
    s.journalItems 0 8 = [.damaged 6, s.journalItem (assigned 1 7 .final), s.journalItem (assigned 2 8 .final)] ∧
    s.journalItems 7 8 = [s.journalItem (assigned 1 7 .final), s.journalItem (assigned 2 8 .final)] ∧
    s.journalItems 8 1 = [s.journalItem (assigned 2 8 .final)] ∧
    s.journalItems 9 8 = [] := by decide +kernel

theorem test_jrel :
    (after (.releaseJournal (.fits 7)) (recorded .intent)).link.output = [.reply 0x9E .done (.released 1 8)] ∧
    (after (.releaseJournal (.fits 8)) (recorded .intent)).link.output = [.reply 0x9E .busy .none] ∧
    (after (.releaseJournal (.fits 9)) (recorded .final)).link.output = [.reply 0x9E .order .none] := by decide +kernel

/-- A machine with the RESET flag set and every notice disabled. -/
theorem witness_NoticeMaskAndRestart :
    ready.serves (.setNoticeMask (.fits 1)) ∧ (0x02000000#32).getLsbD 25 = true ∧ (0x10000000#32).getLsbD 28 = true ∧
    (∀ i, 25 ≤ i → i ≤ 28 → (0xE1FFFFFF#32).getLsbD i = false) ∧
    (0xE1FFFFFF#32).getLsbD 0 = true ∧ ready.link.events.getLsbD 0 = true ∧ ready.link.mask.getLsbD 0 = false ∧
    ready.serves (.restart (.fits ())) := by
  refine ⟨ready_serves _ rfl, by decide, by decide, ?_, by decide, by decide, by decide, ready_serves _ rfl⟩
  intro i h g
  obtain rfl | rfl | rfl | rfl : i = 25 ∨ i = 26 ∨ i = 27 ∨ i = 28 := by omega
  all_goals decide

theorem test_nmask_owes_natt :
    (after (.setNoticeMask (.fits 1)) ready).link.output = [.reply 0x9F .done (.maskAndEvents 1 1), .natt none] := by
  decide +kernel

theorem witness_ClearEventsClearsTheNamedFlags :
    ready.serves (.clearEvents (.fits 1)) ∧ (0x80000000#32).getLsbD 31 = true ∧ (∀ i, 25 ≤ i → i ≤ 31 → (0x01FFFFFF#32).getLsbD i = false) ∧
    ready.link.mask.getLsbD 0 = false := by
  refine ⟨ready_serves _ rfl, by decide, ?_, by decide⟩
  intro i h g
  obtain rfl | rfl | rfl | rfl | rfl | rfl | rfl :
    i = 25 ∨ i = 26 ∨ i = 27 ∨ i = 28 ∨ i = 29 ∨ i = 30 ∨ i = 31 := by omega
  all_goals decide

theorem test_eclr_level :
    (after (.clearEvents (.fits 0x2001)) { inMode .emergency with
      link := { ready.link with events := 0x2001 } }).link.events = 0x2000 := by decide +kernel

/-! ## Witnesses: supplies, resets, the scan, the clock -/

theorem witness_ResetsRebuildTheState :
    { State.reset with phase := .off }.phase = .off ∧ ready.phase ≠ .off ∧ ready.store.op = none ∧
    { State.reset with phase := .inReset }.phase = .inReset := by decide

/-- A reset ends the operation in progress and loses the waiting jobs; how far the torn program of one byte came is one free value
(R169). -/
theorem test_reset_tears :
    let s := { ready with store := { ready.store with
      op := some { action := .program .statusMark 8 [0], owner := .job, next := none, deadline := none },
      jobs := [{ kind := .logErase, step := 0, running := true }] } }
    (after .resetLine s).store.op = none ∧ (after .resetLine s).store.jobs = [] ∧ (after .resetLine s).free = s.free + 1 := by
  decide +kernel

/-- A reset that a loss of the backup supply preceded begins the count again (R135). -/
theorem test_reset_end :
    (after .resetEnd { ready with phase := .inReset, clock := { ready.clock with loss := true } }).clock =
      { seconds := 0, valid := false, loss := false, boundary := 1000000 } ∧
    (after .resetEnd { ready with phase := .inReset }).clock = ready.clock := by decide +kernel

def atStep (n : Nat) : State := { State.reset with scanStep := n }

/-- A store that holds one SETTINGS record. -/
def withSettings : Memory :=
  Memory.carryOut [] (.program .recordProgram 8192 (encodeControl .settings 1 (settingsBytes Settings.defaults .entryOnly)))

/-! A store whose fare bank A holds a whole image (R178, R180). -/

/-- The first 64 bytes of an image of version 1 with the least fares, around its check. -/
def imageHead (check : List Byte) : List Byte :=
  [1#8, 0#8, 0#8, 0#8, 0#8, 0#8, 0#8, 0#8] ++ check ++ ([1#8, 1#8, 0#8, 0#8] ++ List.replicate 16 100#8 ++ List.replicate 16 0#8 ++
    [30#8, 0#8, 0#8, 0#8, 0#8, 0#8, 0#8, 0#8, 60#8, 0#8] ++ List.replicate 6 0#8)

/-- The image with zeros behind them: no fare, no cap, no schedule. -/
def plainImage (check : List Byte) : List Byte := imageHead check ++ List.replicate 960 0#8

theorem plainImage_ranges (c : List Byte) (hc : c.length = 4) (q : Nat × Bool) (hq : q ∈ rangeChecks (plainImage c)) : q.2 = true := by
  have hl : (imageHead c).length = 64 := by simp [imageHead, hc]
  have hz : ∀ o n, 64 ≤ o → field (plainImage c) o n = 0 := fun o n h => field_zeros _ _ _ _ (by omega)
  have hb : ∀ o n, o + n ≤ 8 ∨ 12 ≤ o → o + n ≤ 64 → field (plainImage c) o n = field (imageHead [0, 0, 0, 0]) o n := by
    intro o n h h'
    rw [plainImage, field_before _ _ _ _ (by omega)]
    exact field_beside _ _ _ _ _ _ (by simp [hc]) (by simp [hc]; omega)
  have hk : ∀ k, k < 8 → field (imageHead [0, 0, 0, 0]) (16 + k) 1 = 100 ∧ field (imageHead [0, 0, 0, 0]) (24 + k) 1 = 100 ∧
      field (imageHead [0, 0, 0, 0]) (32 + 2 * k) 2 = 0 := by decide
  simp only [rangeChecks, List.mem_append, List.mem_map, List.mem_range, List.mem_flatMap] at hq
  rcases hq with (((((((h | ⟨k, h, rfl⟩) | ⟨k, h, rfl⟩) | ⟨k, h, rfl⟩) | h) | ⟨k, h, rfl⟩) | ⟨k, h, h'⟩) | ⟨k, h, rfl⟩)
  · simp (disch := omega) only [hb] at h
    revert q
    decide
  · simp (disch := omega) only [hb, hk k h]; rfl
  · simp (disch := omega) only [hb, hk k h]; rfl
  · simp (disch := omega) only [hb, hk k h]; rfl
  · simp (disch := omega) only [hb] at h
    revert q
    decide
  · simp (disch := omega) only [hz]; rfl
  · simp (disch := omega) only [scheduleChecks, hz] at h'
    simp at h'
    rcases h' with rfl | rfl | rfl | rfl | rfl | rfl | rfl | rfl <;> rfl
  · simp (disch := omega) only [hz]; rfl

/-- What stands before the check: version 1, effective from minute 0. -/
def imageStart : List Byte := [1#8, 0#8, 0#8, 0#8, 0#8, 0#8, 0#8, 0#8]

/-- What stands behind the check. -/
def imageRest : List Byte :=
  ([1#8, 1#8, 0#8, 0#8] ++ List.replicate 16 100#8 ++ List.replicate 16 0#8 ++
    [30#8, 0#8, 0#8, 0#8, 0#8, 0#8, 0#8, 0#8, 60#8, 0#8] ++ List.replicate 6 0#8) ++ List.replicate 960 0#8

theorem plainImage_split (c : List Byte) : plainImage c = imageStart ++ c ++ imageRest := by
  simp only [plainImage, imageHead, imageRest, imageStart, List.append_assoc]

theorem imageRest_length : imageRest.length = 1012 := by
  simp only [imageRest, List.length_append, List.length_replicate, List.length_cons, List.length_nil]

/-- A whole image of 1,024 bytes, with its check. -/
def wholeImage : List Byte := plainImage (leBytes 4 (crc32 (imageStart ++ List.replicate 4 0#8 ++ imageRest)))

theorem wholeImage_length : wholeImage.length = 1024 := by
  rw [wholeImage, plainImage_split, List.length_append, List.length_append, imageRest_length, leBytes_length]; rfl

theorem wholeImage_valid : imageOffence wholeImage = none := by
  have hc : imageCheckMatches wholeImage = true := by rw [wholeImage, plainImage_split]; exact image_check_matches _ _ rfl imageRest_length
  have hr : (rangeChecks wholeImage).find? (fun c => !c.2) = none := by
    refine List.find?_eq_none.2 fun q hq => ?_
    rw [plainImage_ranges _ (leBytes_length _ _) q hq]
    decide
  rw [imageOffence, hc, hr]
  rfl

theorem wholeImage_version : field wholeImage 0 4 = 1 := by
  rw [wholeImage, plainImage_split, List.append_assoc, field_before _ _ _ _ (by decide)]; rfl

/-- Fare bank A as an arm job leaves it, with an activation mark or none behind it. -/
def banked (mark : List Byte) : Memory :=
  ((Memory.program [] 12288 wholeImage).program 13312 (completeRecord (field wholeImage 0 4) (field wholeImage 8 4))).program 13376 mark

theorem banked_wf (mark : List Byte) : (banked mark).wf = true :=
  Memory.program_wf _ _ (Memory.program_wf _ _ (Memory.program_wf _ _ rfl))

theorem banked_read (mark : List Byte) (x : Nat) : (banked mark).read x =
    if 13376 ≤ x ∧ x < 13376 + mark.length then mark.getD (x - 13376) 0xFF#8
    else if 13312 ≤ x ∧ x < 13322 then (completeRecord (field wholeImage 0 4) (field wholeImage 8 4)).getD (x - 13312) 0xFF#8
    else if 12288 ≤ x ∧ x < 13312 then wholeImage.getD (x - 12288) 0xFF#8 else 0xFF#8 := by
  have hand : ∀ y : Byte, 0xFF#8 &&& y = y := fun _ => BitVec.allOnes_and
  have e : Memory.read [] x = 0xFF#8 := rfl
  rw [banked, Memory.read_program (Memory.program_wf _ _ (Memory.program_wf _ _ rfl)),
    Memory.read_program (Memory.program_wf _ _ rfl), Memory.read_program rfl, completeRecord_length, wholeImage_length, e, hand]
  split
  · rw [if_neg (by omega), if_neg (by omega), hand]
  · split
    · rw [if_neg (by omega), hand]
    · rfl

theorem banked_image (mark : List Byte) : fareBankImage (banked mark) .A = some wholeImage := by
  have hi : (banked mark).bytes 12288 1024 = wholeImage := by
    rw [← wholeImage_length]
    refine Memory.bytes_eq fun i h => ?_
    rw [wholeImage_length] at h
    rw [banked_read, if_neg (by omega), if_neg (by omega), if_pos (by omega), Nat.add_sub_cancel_left]
  have hr : (banked mark).bytes 13312 10 = completeRecord (field wholeImage 0 4) (field wholeImage 8 4) := by
    rw [← completeRecord_length (field wholeImage 0 4) (field wholeImage 8 4)]
    refine Memory.bytes_eq fun i h => ?_
    rw [completeRecord_length] at h
    rw [banked_read, if_neg (by omega), if_pos (by omega), Nat.add_sub_cancel_left]
  have hb : (banked mark).blank 13312 10 = false := by
    refine Bool.eq_false_iff.2 fun he => ?_
    have h0 := (Memory.blank_iff (banked_wf mark) _ _).1 he 13312 (by decide) (by decide)
    rw [banked_read, if_neg (by omega), if_pos (by omega), wholeImage_version] at h0
    exact absurd h0 (by simp [completeRecord, withCrc16, leBytes, erasedByte])
  have hlt : ∀ o, field wholeImage o 4 < 256 ^ 4 := fun o => by
    have h := leNat_lt (slice wholeImage o 4)
    rwa [show (slice wholeImage o 4).length = 4 from by simp [slice]] at h
  obtain ⟨f1, f2, f3⟩ := completeRecord_fields _ _ (hlt 0) (hlt 8)
  have e1 := Memory.bytes_listed (banked_wf mark) 12288 1024 1024 (by decide)
  have e2 := Memory.bytes_listed (banked_wf mark) 13312 16 10 (by decide)
  rw [hi] at e1; rw [hr] at e2
  show (if (banked mark).blank 13312 10 then none
    else if crc16Holds (((banked mark).listed 13312 16).bytes 13312 10) 8 = true ∧
      imageOffence (((banked mark).listed 12288 1024).bytes 12288 1024) = none ∧
      field (((banked mark).listed 13312 16).bytes 13312 10) 4 4 = field (((banked mark).listed 12288 1024).bytes 12288 1024) 8 4 ∧
      field (((banked mark).listed 13312 16).bytes 13312 10) 0 4 = field (((banked mark).listed 12288 1024).bytes 12288 1024) 0 4 then
        some (((banked mark).listed 12288 1024).bytes 12288 1024) else none) = _
  rw [hb, e1, e2, if_neg Bool.false_ne_true, if_pos ⟨f1, wholeImage_valid, f2, f3⟩]

theorem banked_marked (mark : List Byte) (hm : mark.length = 6) : (banked mark).bytes 13376 6 = mark := by
  rw [← hm]
  exact Memory.bytes_eq fun i h => by rw [banked_read, if_pos (by omega), Nat.add_sub_cancel_left]

theorem witness_fare_banks : fareBankImage (banked (activationMark 1)) .A = some wholeImage ∧
    markedWith (banked (activationMark 1)) (fareMarkAddr .A) (field wholeImage 0 4) = true ∧
    fareBankImage (banked []) .A = some wholeImage ∧ markedWith (banked []) (fareMarkAddr .A) (field wholeImage 0 4) = false ∧
    ∀ mark, mark.length ≤ 6 → fareBankImage (banked mark) .B = none := by
  refine ⟨banked_image _, ?_, banked_image _, ?_, fun mark hm => ?_⟩
  · have h : (banked (activationMark 1)).bytes (fareMarkAddr .A) 6 = activationMark 1 := banked_marked _ (by decide)
    rw [markedWith, h, wholeImage_version]; decide +kernel
  · have h : (banked []).bytes (fareMarkAddr .A) 6 = List.replicate 6 0xFF#8 := by
      have h0 : ∀ i ∈ List.range 6, (banked []).read (fareMarkAddr .A + i) = 0xFF#8 := fun i hi => by
        have := List.mem_range.1 hi
        have e : fareMarkAddr .A = 13376 := rfl
        rw [banked_read, if_neg (by simp), if_neg (by omega), if_neg (by omega)]
      exact (List.map_congr_left h0).trans rfl
    rw [markedWith, h]; decide +kernel
  · have hb : (banked mark).blank 17408 10 = true := by
      refine (Memory.blank_iff (banked_wf mark) _ _).2 fun x h1 h2 => ?_
      rw [banked_read, if_neg (by omega), if_neg (by omega), if_neg (by omega)]; rfl
    show (if (banked mark).blank 17408 10 then none else _) = none
    rw [hb, if_pos rfl]

/-- A program of the scan in progress. -/
def scanning : State :=
  { State.reset with
    scanStep := 7, scanWork := [.settingsDefaults 0],
    store := { State.reset.store with
      op := some { action := .program .statusMark 0 [0], owner := .scan, next := none, deadline := some 500 } } }

/-- A store that holds a KEY record, and one that holds a marked empty deny bank and one delta behind its version. -/
def withKey : Memory :=
  Memory.carryOut [] (.program .recordProgram 4096 (encodeControl .key 1 (keySlotBytes (slotOf 3) ++ keySlotBytes none)))
def withDeny : Memory :=
  ((Memory.program [] (sectorBase 7) (bankRecord 4 [])).program (denyMarkAddr .A) (activationMark 4)).program (deltaAddr 0)
    (encodeDelta { add := true, number := 9, reason := 2, version := 5 })

/-- A mark of the scan in progress, on the record of position 7. -/
def scanMarking (st : RecordStatus) : State :=
  { scanning with
    scanWork := [.mark 7 st],
    journal := { scanning.journal with
      positions := [{ pos := 7, seq := some 3, status := st, unverified := false, released := false,
                      reported := true }] } }

/-- The end of a scan that found a table ARMED and due, and none active. -/
def scannedArmed : State :=
  { atStep 7 with
    clock := ready.clock, station := ready.station,
    loader := { (atStep 7).loader with staged := .armed (leBytes 4 6 ++ leBytes 4 13248500) } }

theorem witness_StartUpScan :
    (atStep 1).phase = .scanning ∧ (atStep 6).scanStep ≤ 6 ∧ recordInForce (atStep 2).store.memory 1 .key = none ∧
    (recordInForce withKey 1 .key).isSome = true ∧
    recordInForce (atStep 3).store.memory 2 .settings = none ∧ (recordInForce withSettings 2 .settings).isSome = true ∧
    fareBankImage (atStep 4).store.memory .A = none ∧ fareBankImage (atStep 4).store.memory .B = none ∧
    denyBankOf withDeny .A = some (4, []) ∧ markedWith withDeny (denyMarkAddr .A) 4 = true ∧ denyBankOf withDeny .B = none ∧
    (∀ b, denyBankOf (atStep 5).store.memory b = none) ∧ (after .startUpScanStepEnd (atStep 1)).station.lock ≠ .locked ∧
    (scanning.store.op.map fun o => (o.owner, o.next)) = some (.scan, none) ∧ scanning.supplyWarning = false ∧
    scanning.scanWork = .settingsDefaults 0 :: [] ∧
    ((scanning.store.op.map fun (o : StoreOp) => ({ o with next := some 1 } : StoreOp)).map (·.next)) = some (some 1) ∧
    (scanning.store.op.all fun o => scanning.opSucceeds true o && !scanning.opSucceeds false o) = true ∧
    (scanMarking .uncertain).scanWork = .mark 7 .uncertain :: [] ∧ RecordStatus.uncertain ≠ .damaged ∧
    (scanMarking .damaged).scanWork = .mark 7 .damaged :: [] ∧ (scanMarking .uncertain).phase = .scanning ∧
    (atStep 7).scanStep = 7 ∧ (atStep 7).scanWork = [] ∧ (atStep 7).store.op = none ∧
    scannedArmed.scanStep = 7 ∧ scannedArmed.fareDue = true ∧ (atStep 7).fareDue = false := by
  refine ⟨?_, ?_, ?_, ?_, ?_, ?_, ?_, ?_, ?_, ?_, ?_, fun b => ?_, ?_, ?_, ?_, ?_, ?_, ?_, ?_⟩
  case refine_12 => cases b <;> decide +kernel
  all_goals decide +kernel

/-- The lock entry of section 9.3 that holds a valid identity locks the part. -/
theorem test_scan :
    (after .startUpScanStepEnd { atStep 1 with store := Store.initial (Memory.carryOut []
      (.program .recordProgram (lockEntryAddr 3) (lockEntryBytes { station := 1, gate := 1, zone := 0 }))) }).station.lock
        = .locked ∧
    (after .startUpScanStepEnd { atStep 3 with store := Store.initial withSettings }).aisle.direction = .entryOnly ∧
    (after .startUpScanStepEnd { atStep 2 with store := Store.initial withKey }).check.key0 = slotOf 3 ∧
    (let t := after .startUpScanStepEnd { atStep 5 with store := Store.initial withDeny }
     t.loader.markedBank = some .A ∧ t.check.denyVersion = 5 ∧ t.check.denyList = [{ number := 9, reason := 2 }]) ∧
    (after .startUpScanStepEnd (atStep 6)).journal.nextSeq = 9 := by decide +kernel

/-- A program of the scan has ended, and nothing is left to program; then the scan ends out of service (R88, R177). -/
theorem test_scan_ends :
    (after (.scanProgramComplete true) scanning).scanWork = [] ∧ (after (.scanProgramComplete true) scanning).store.op = none ∧
    (after .startUpScanEnd (atStep 7)).phase = .running ∧ (after .startUpScanEnd (atStep 7)).aisle.mode = .outOfService := by
  decide +kernel

/-- Record 5 at ring position `p`, unreadable positions at `bad`, all else of the ring blank. -/
def tornRing (p : Nat) (bad : List Nat) : Memory :=
  bad.foldl (fun m q => m.program (positionAddr q) [0#8])
    (Memory.program [] (positionAddr p) (encodeRecord { (default : JournalRecord) with kind := .entry, seq := 5 } .final))

/-- The status of the ring's sector `k` and the write position after a scan with floor 5. -/
def scanned (m : Memory) (k : Nat) : Option SectorState × Nat :=
  let j := (scanJournal m 5).journal
  (j.sectors[k]?, j.writePos)

/-- H's own sector does not lie between H's position and the write position, and a torn erase of it is WAITING; the sector of
the write position lies between when it is blank from there on, and otherwise its erase was torn (R161, log entries 17 and
62). -/
theorem test_scan_torn_erase :
    scanned (tornRing 9 [10, 12]) 0 = (some .waiting, 0) ∧ scanned (tornRing 63 [64]) 1 = (some .current, 65) ∧
    scanned (tornRing 63 [64, 66]) 1 = (some .waiting, 64) := by decide +kernel

/-- A record whose mark of the scan failed is unverified (R157); a table found ARMED and due is active when the scan has
ended, with no TABLE_INVALID (R177, R186). -/
theorem test_scan_mark_and_table :
    (after (.scanProgramComplete false) (scanMarking .uncertain)).journal.positions.map (·.unverified) = [true] ∧
    (after .startUpScanEnd scannedArmed).fare.map (·.version) = some 6 ∧
    (after .startUpScanEnd scannedArmed).link.flag .tableActivated = true ∧
    (after .startUpScanEnd scannedArmed).link.flag .tableInvalid = false := by
  decide +kernel

/-- What the clause on a lost clock's validity asks of the free flag cannot be shown on one state, since its value is
open. -/
theorem witness_ClockTicksAndLoss :
    ready.clock.loss = false ∧ (794910000 + 1) / 60 = ready.clock.seconds / 60 ∧
    (let s : State := { ready with clock := { ready.clock with seconds := 59 } }
     (s.clock.seconds + 1) / 60 ≠ s.clock.seconds / 60) ∧
    ready.phase = .running ∧ ready.clock.valid = true := by decide

theorem test_second_tick :
    (after .secondTick atLimit).clock.seconds = 3155673599 ∧ (after .secondTick ready).clock.seconds = 794910001 ∧
    (after .secondTick ready).now = 1000000 := by decide +kernel

def erasing : StoreOp := { action := .erase 40, owner := .journalErase 1, next := none, deadline := some 45000 }
def recordOf (kind : JournalKind) (seq : Nat) : JournalRecord := { (default : JournalRecord) with kind := kind, seq := seq }

/-- No fail-open, the target FREE already, and the left leaf in a state. -/
def closedOnFailure (st : LeafState) : State :=
  let s := withLeft (fun l => { l with state := st, bridge := if st = .opening then .driveOpen else .off }) (inMode .manual)
  { s with settings := { s.settings with inForce := { s.settings.inForce with failOpen := 0 } },
           aisle := { s.aisle with target := .free }, drive := { s.drive with inForce := .free } }

theorem witness_SupplyWarningSuspendsTheStore :
    ready.phase = .running ∧ ready.supplyWarning = false ∧
    (∀ st ∈ [SessionState.identifying, .authenticating, .reading, .awaitIntent, .writing, .querying, .closed, .ready, .holdoff],
      ((ready.onSession .U fun x => { x with state := st }).session .U).state = st) ∧
    (let s : State := { ready with aisle := { ready.aisle with
       credits := [{ direction := .inbound, source := .card, state := .reserved, seq := none, reader := some .U }] } }
     ((s.onSession .U fun x => { x with state := .writing }).session .U).state = .writing ∧ s.aisle.reserved .U = true) ∧
    (let s : State := { ready with supplyWarning := true, store := { ready.store with op := some erasing } }
     s.supplyWarning = true ∧ s.store.op = some erasing) ∧
    (let s : State := { ready with supplyWarning := true, journal := { ready.journal with
       staging := [.mark 0 .final none] } }
     s.store.op = none ∧ s.journal.staging = .mark 0 .final none :: []) ∧
    (closedOnFailure .opening).settings.inForce.failOpen ≠ 1 ∧
    (∀ st ∈ [LeafState.opening, .closing, .braking, .closed, .open, .free, .stalled, .heldOpen],
      ((closedOnFailure st).drive.leaf .left).state = st) := by decide +kernel

/-- A leaf that moves toward FREE is stopped with that action when the warning starts (R129). -/
theorem test_warning_stops_leaves :
    let t := after .supplyWarningStart (closedOnFailure .opening)
    t.drive.left.state = .braking ∧ t.drive.left.action = some .free ∧ t.drive.inForce = .free := by decide +kernel

theorem test_supply_warning :
    (after .supplyWarningStart { ready with store := { ready.store with op := some erasing } }).store.op =
      some { erasing with deadline := none } ∧
    (after .supplyWarningStart ready).drive.left.state = .opening := by decide +kernel

/-! ## Witnesses: card sessions -/

def cardOf (status : CardStatus) (counter : Nat) : CardId :=
  { number := 5, cls := 0, status := status, keyVersion := 3, counter := counter }

/-- Reader U's session in a state, with an exchange outstanding and a card; slot 0 holds the card's key. -/
def exchanging (st : SessionState) (e : Exchange) : State :=
  { ready with check := { ready.check with key0 := slotOf 3 } }.onSession .U fun x => { x with
    state := st, exchange := some e, card := some (cardOf .active 10), answerWindow := some 20000 }

theorem witness_FrontEndReports :
    ready.phase.linkRuns = true ∧ (ready.session .U).state = .closed ∧ ready.readerAt .zero = .U ∧
    (let s := ready.onSession .U fun x => { x with state := .holdoff }
     (s.session .U).state = .holdoff ∧ s.journal.slot .U = []) ∧
    ((exchanging .reading .read).session .U).state = .reading ∧ ((exchanging .reading .read).session .U).twin = false ∧
    ((exchanging .querying .query).session .U).state = .querying ∧
    ((exchanging .querying .query).session .U).outcome = none ∧
    ((exchanging .writing (.write [] 10)).session .U).state = .writing ∧
    (((exchanging .reading .read).onSession .U fun x => { x with twin := true }).session .U).twin = true ∧
    (let s : State := { (exchanging .awaitIntent .read) with
       aisle := { ready.aisle with
         credits := [{ direction := .inbound, source := .card, state := .reserved, seq := none, reader := some .U }] },
       journal := { ready.journal with staging := [.record (recordOf .entry 8) 0 (.session .U)],
                                       waiting := [{ reader := .U, item := .intent }] } }
     (s.session .U).state = .awaitIntent ∧ s.aisle.reserved .U = true ∧
     (after (.cardRemoved .zero) s).aisle.credits = [] ∧ (after (.cardRemoved .zero) s).journal.waiting = [] ∧
     (after (.cardRemoved .zero) s).journal.staging.head? = some (.record (recordOf .entry 8) 0 .voidOwed)) ∧
    (exchanging .awaitIntent .read).aisle.reserved .U = false := by decide +kernel

/-- A reader that is READY with a card that has not been read. -/
def carded (m : GateMode) : State :=
  let s := (inMode m).onSession .U fun x => { x with state := .ready }
  { s with cards := { s.cards with presence0 := .newCard }, link := { s.link with mask := 0x20000000 } }

theorem witness_ReadersOpenAndSessionsStart :
    (ready.session .U).state = .closed ∧ ready.aisle.mode ≠ .outOfService ∧ ready.aisle.direction = .both ∧
    ready.station.identity ≠ none ∧ ready.fare ≠ none ∧ ready.clock.valid = true ∧ ready.phase = .running ∧
    (inMode .outOfService).aisle.mode = .outOfService ∧ ((exchanging .reading .read).session .U).state ≠ .ready ∧
    ((exchanging .reading .read).session .U).state ≠ .closed ∧
    (∀ m ∈ [GateMode.normal, .emergency], ((carded m).session .U).state = .ready ∧ (carded m).paused .U = false ∧
      (carded m).cards.presence ((carded m).linkOf .U) = .newCard) ∧
    (carded .emergency).link.mask.getLsbD 29 = true ∧ (carded .emergency).link.output.length < 12 ∧
    ready.cards.presence (ready.linkOf .P) ≠ .newCard := by decide +kernel

theorem test_session_start :
    ((after (.sessionStart .U) (carded .normal)).session .U).exchange = some .identify ∧
    ((after (.sessionStart .U) (carded .normal)).session .U).answerWindow = some 20000 := by decide +kernel

theorem witness_IdentifyAnswerMeetsTheChecks :
    let s := exchanging .identifying .identify
    s.phase = .running ∧ s.readerAt .zero = .U ∧ (s.session .U).exchange = some .identify ∧
    (s.session .U).state = .identifying ∧ (s.session .U).verdict = none ∧ s.check.key0.map (·.version) = some (cardOf .active 10).keyVersion ∧ (cardOf .active 65535).counter = 65535 ∧
    s.cards.inSession (s.linkOf (otherReader .U)) ≠ some 5 ∧
    { s with cards := { s.cards with inSession1 := some 5 } }.cards.inSession (s.linkOf (otherReader .U)) = some 5 ∧
    (cardOf .blocked 10).status = .blocked ∧
    (∃ e ∈ { s with check := { s.check with hotList := [hot 5] } }.check.hotList, e.number = 5) ∧
    (∃ e ∈ { s with check := { s.check with denyList := [{ number := 5, reason := 1 }] } }.check.denyList, e.number = 5) ∧
    (s.session .U).image = none ∧ { s.link with mask := 0x20000000#32 }.mask.getLsbD 29 = true ∧ s.link.output.length < 10 ∧
    ((s.onSession .P fun x => { x with state := .reading }).session (otherReader .U)).state = .reading ∧
    s.journal.waiting = [] ∧ s.journal.room 1 = true := by
  decide +kernel

/-- A second presence of one card: CLONE_DETECTED here, the twin mark there, and its end at the next event (R11). -/
theorem test_twin :
    let s := (exchanging .identifying .identify).onSession .P fun x => { x with
      state := .reading, exchange := some .read, card := some (cardOf .active 10) }
    let t := after (.identifyAnswer .zero (cardOf .active 10)) { s with cards := { s.cards with inSession1 := some 5 } }
    (t.session .U).outcome = some .cloneDetected ∧ (t.session .P).twin = true ∧ (t.session .P).state = .reading ∧
    ((after (.readAnswer .one []) t).session .P).outcome = some .cloneDetected := by decide +kernel

theorem test_identify_blocked :
    ((after (.identifyAnswer .zero (cardOf .blocked 10)) (exchanging .identifying .identify)).session .U).outcome
      = some .cardBlocked ∧
    ((after (.identifyAnswer .zero (cardOf .blocked 10)) (exchanging .identifying .identify)).journal.staging.map fun e =>
      match e with | .record rec _ _ => (rec.seq, rec.kind, rec.reason, rec.number) | _ => (0, .unused, 0, 0))
      = [(9, .refused, 9, 5)] ∧
    ((after (.identifyAnswer .zero (cardOf .active 65535)) (exchanging .identifying .identify)).session .U).outcome
      = some .cardExhausted := by decide +kernel

/-- A response can be the expected one, or another, whatever the digest. -/
theorem witness_AuthenticateAnswerIsCompared (c : BitVec 64) :
    let s := exchanging .authenticating (.authenticate c)
    let v := s.onSession .U fun x => { x with verdict := some .denyListed, mismatchUsed := true }
    s.phase = .running ∧ (s.session .U).exchange = some (.authenticate c) ∧
    (s.session .U).card = some (cardOf .active 10) ∧ (s.session .U).twin = false ∧
    ((s.onSession .U fun x => { x with twin := true }).session .U).twin = true ∧
    (s.session .U).challenges.length < 2 ^ 64 ∧ s.check.keyFor 3 = some { version := 3, key := 0 } ∧
    (s.session .U).verdict = none ∧ (v.session .U).verdict = some .denyListed ∧ (s.session .U).mismatchUsed = false ∧
    (v.session .U).mismatchUsed = true ∧
    expectedResponse 0 (cardOf .active 10) c + 1 ≠ expectedResponse 0 (cardOf .active 10) c := by
  exact ⟨rfl, rfl, rfl, rfl, rfl, by simp [exchanging, State.session, State.onSession, Cards.session, Cards.setSession, ready, State.reset, Cards.initial, Session.initial], rfl, rfl, rfl, rfl, rfl, by simp⟩

/-- The bytes of a card image that R5 accepts, and bytes that it refuses. -/
theorem witness_ReadAnswerIsDecided :
    let s := exchanging .reading .read
    s.phase = .running ∧ (s.session .U).exchange = some .read ∧ (s.session .U).card = some (cardOf .active 10) ∧
    (s.session .U).twin = false ∧ imageGood [] = false ∧ imageGood (encodeImage imageBefore) = true ∧
    s.recoveryFor 5 = none ∧ s.check.sightings = [] ∧ s.fare = some caseTable ∧
    s.ruling .U caseTable (cardOf .active 10) (decodeImage (encodeImage imageBefore)) =
      entryDecision (caseAt 210 12 2 13248500 imageBefore) ∧
    entryDecision (caseAt 210 12 2 13248504 image1) = .refuse .passback 0 0 0 ∧
    s.aisle.mode ≠ .emergency ∧ s.askClaim .inbound = .granted ∧ (credited 4).askClaim .inbound ≠ .granted ∧
    ((s.onSession .U fun x => { x with twin := true }).session .U).twin = true ∧
    (exchanging .reading .read).link.output.length < 10 ∧ { s.link with mask := 0x20000000#32 }.mask.getLsbD 29 = true ∧
    (sighted 794909000).check.sightings.find? (fun e => e.number == 5) = some (sighting 794909000) ∧
    ¬ 60 * s.settings.inForce.sightingAge < s.clock.seconds - 794909000 ∧
    60 * s.settings.inForce.sightingAge < s.clock.seconds - 794895599 ∧
    (cardOf .active 9).counter < (sighting 0).counter ∧ (cardOf .active 10).counter = (sighting 0).counter ∧
    (sighting 0).counter < (cardOf .active 11).counter ∧ { imageBefore with writerMinute := 13248400 }.writer = (sighting 0).stamp ∧
    image1.writer ≠ (sighting 0).stamp := by
  decide +kernel

/-- A card read with a counter below its sighting's: the block path with CLONE_DETECTED, and a hot list entry (R46); a
sighting of its own counter and stamp goes on to the decision. -/
theorem test_read_screened :
    let s : State := { (exchanging .reading .read) with check := { (exchanging .reading .read).check with
      sightings := [{ sighting 794909000 with counter := 11 }] } }
    let t := after (.readAnswer .zero (encodeImage imageBefore)) s
    let u := after (.readAnswer .zero (encodeImage { imageBefore with writerMinute := 13248400 })) { s with check := { s.check with
      sightings := [sighting 794909000] } }
    (t.session .U).outcome = some .cloneDetected ∧ (t.session .U).blockPath = true ∧ (t.session .U).state = .awaitIntent ∧
    t.check.hotList.map (fun e => (e.number, e.criterion)) = [(5, .regression)] ∧
    (u.session .U).outcome = none ∧ (u.session .U).decision.isSome = true := by decide +kernel

theorem test_read_admits :
    ((after (.readAnswer .zero (encodeImage imageBefore)) (exchanging .reading .read)).session .U).decision.map (·.image)
      = some image1 := by decide +kernel

def tornEntry : RecoveryEntry :=
  { number := 5, before := 9, after := 10, seq := 4, direction := .inbound, minute := 13248500,
    stamp := imageBefore.writer, honourDeadline := 60000000 }

/-- The session of a card with an entry in the Recovery List. -/
def torn : State := { exchanging .reading .read with recovery := [tornEntry] }

theorem witness_TornWritesAreSettled :
    (tornEntry.after = tornEntry.after ∧ tornEntry.before ≠ tornEntry.after) ∧ (11 ≠ tornEntry.before) ∧
    torn.phase = .running ∧ (torn.session .U).exchange = some .read ∧ (torn.session .U).card = some (cardOf .active 10) ∧
    (torn.session .U).twin = false ∧ imageGood (encodeImage imageBefore) = true ∧
    torn.recovery.find? (fun e => e.number == 5) = some tornEntry ∧
    settlementOf tornEntry (cardOf .active 10).counter (decodeImage (encodeImage imageBefore)).writer = .done ∧
    torn.now < tornEntry.honourDeadline ∧ ¬ 60000000 < tornEntry.honourDeadline ∧
    settlementOf tornEntry 9 (decodeImage (encodeImage imageBefore)).writer = .void ∧
    tornEntry.direction = directionOfReader .U ∧ torn.aisle.mode ≠ .emergency ∧ torn.journal.room 1 = true ∧
    torn.askClaim .inbound = .granted ∧
    { torn with journal := State.reset.journal }.journal.room 1 = false := by decide +kernel

theorem test_honoured :
    ((after (.readAnswer .zero (encodeImage imageBefore)) torn).session .U).outcome = some .honoured ∧
    (after (.readAnswer .zero (encodeImage imageBefore)) torn).aisle.claim = some .inbound := by decide +kernel

/-- A waiting line with one member, and so many entries staged before it. -/
def lined (item : WaitItem) (n : Nat) : State :=
  { ready with journal := { ready.journal with
      waiting := [{ reader := .U, item := item }], staging := List.replicate n (.mark 0 .final none) } }.onSession .U
    fun x => { x with state := .awaitIntent, intent := some (recordOf .entry 0) }

theorem witness_WaitingRecordsEnterInOrder :
    (lined .intent 6).phase = .running ∧ (lined .intent 6).journal.waiting = { reader := .U, item := .intent } :: [] ∧
    ((lined .intent 6).session .U).intent = some (recordOf .entry 0) ∧ (lined .intent 6).journal.room 2 = true ∧
    (lined .intent 7).journal.room 2 = false ∧
    (lined (.record (recordOf .refused 0)) 7).journal.waiting = { reader := .U, item := .record (recordOf .refused 0) } :: [] ∧
    (lined (.record (recordOf .refused 0)) 7).journal.room 1 = true ∧
    (lined (.record (recordOf .refused 0)) 8).journal.room 1 = false := by decide +kernel

/-- No record enters a write position whose sector waits for its erase, although another sector is ERASED: a `grant` is
refused FULL until the erase is reported done (R151, R155, R161). -/
theorem test_position_not_free :
    let s : State := { ready with journal := { ready.journal with sectors := [.waiting, .erased], eraseWork := .erase 0 } }
    let op : StoreOp := { action := .erase 39, owner := .journalErase 0, next := none, deadline := some 45000 }
    s.journal.freePositions = 64 ∧ (after (.grantPassage (.fits (some .inbound))) s).link.output = [.reply 0x89#8 .full .none] ∧
    (after (.journalSectorEraseComplete true) { s with store := { s.store with op := some op } }).journal.room 1 = true := by
  decide +kernel

/-- A session in WRITING, its intent recorded at position 0 with number 8. -/
def writing (e : Exchange) (st : SessionState) : State :=
  let s := (exchanging st e).onSession .U fun x => { x with
    decision := some { image := image1, kind := .entry, unclosed := false, fare := 0, charge := 0, direction := .inbound,
                       minute := 13248500 }, intentSeq := some 8 }
  { s with
    journal := { s.journal with positions := [assigned 0 8 .intent], writePos := 1, reservations := 1 },
    aisle := { s.aisle with claim := some .inbound, credits :=
      [{ direction := .inbound, source := .card, state := .reserved, seq := none, reader := some .U }] } }

theorem witness_WriteAnswersEndTheMoneyPath :
    (let s := writing (.write (encodeImage image1) 10) .writing
     s.phase = .running ∧ (s.session .U).card = some (cardOf .active 10) ∧
     (s.session .U).exchange = some (.write (encodeImage image1) 10) ∧ (s.session .U).blockPath = false ∧
     (s.session .U).outcome = none ∧ (s.session .U).decision.isSome = true ∧
     ((s.session .U).decision.map (·.kind)) = some .entry ∧ (s.session .U).withheld = false ∧ s.aisle.reserved .U = true ∧
     s.journal.posOf 8 = some 0 ∧ (s.session .U).intentSeq = some 8) ∧
    (let s := (exchanging .writing (.block 10)).onSession .U fun x => { x with blockPath := true, outcome := some .denyListed }
     (s.session .U).exchange = some (.block 10) ∧ (s.session .U).blockPath = true ∧
     (s.session .U).outcome = some .denyListed) ∧
    ((writing .query .querying).session .U).exchange = some .query ∧ (12 : Nat) ≠ 10 + 1 ∧ (12 : Nat) ≠ 10 ∧
    (let s := (exchanging .querying .query).onSession .U fun x => { x with blockPath := true, outcome := some .denyListed }
     (s.session .U).exchange = some .query ∧ (s.session .U).blockPath = true) ∧
    (let s := writing (.write (encodeImage image1) 10) .writing
     { s.link with mask := 0xA0000000#32 }.mask.getLsbD 29 = true ∧ { s.link with mask := 0xA0000000#32 }.mask.getLsbD 31 = true ∧
     s.link.output.length < 9 ∧ s.check.sightings.find? (fun e => e.number == 5) = none ∧ s.journal.room 2 = true ∧
     ((s.onSession .U fun x => { x with withheld := true }).session .U).withheld = true) := by
  decide +kernel

theorem test_write_accepted :
    (let t := after (.writeAnswer .zero (.accepted 11)) (writing (.write (encodeImage image1) 10) .writing)
     (t.session .U).outcome = some .admittedEntry ∧ t.aisle.anyActive = true ∧ t.journal.staging = [.mark 0 .complete none]) ∧
    (let t := after (.queryAnswer .zero 12) (writing .query .querying)
     (t.session .U).outcome = some .torn ∧ t.link.flag .tear = true) := by decide +kernel

/-- The credit of a write that ends after its mode has ended is withheld: an UNUSED record with reason MODE, and no credit
(R24, R87). -/
theorem test_withheld_credit :
    let t := after (.writeAnswer .zero (.accepted 11))
      ((writing (.write (encodeImage image1) 10) .writing).onSession .U fun x => { x with withheld := true })
    t.aisle.anyActive = false ∧ t.journal.staging.length = 2 ∧
    (t.journal.staging[1]?.map fun e => match e with
      | .record rec _ _ => (rec.kind, rec.reason, rec.referenced)
      | _ => (.grant, 0, none)) = some (.unused, 40, some 8) := by decide +kernel

/-- A change to EMERGENCY aborts the session that reads and withholds the credit of the one that writes (R24). -/
theorem test_emergency_interrupts :
    let s := (writing (.write (encodeImage image1) 10) .writing).onSession .P fun x => { x with
      state := .reading, exchange := some .read, card := some (cardOf .active 10) }
    let t := after (.setGateMode (.fits (some .emergency))) s
    (s.session .U).state = .writing ∧ s.aisle.reserved .U = true ∧ (s.session .P).state = .reading ∧
    (t.session .U).withheld = true ∧ (t.session .U).state = .writing ∧ (t.session .P).outcome = some .aborted ∧
    t.aisle.credits = [] ∧ t.aisle.target = .open := by decide +kernel

theorem witness_SessionTimers :
    (∀ e ∈ [Exchange.identify, .read, .authenticate 7, .query, .write [] 10, .block 10],
      let s := exchanging .reading e
      s.phase = .running ∧ (s.session .U).answerWindow = some 20000 ∧ (s.session .U).exchange = some e ∧
      (s.session .U).twin = false ∧ (s.session .U).challenges.length < 2 ^ 64 ∧ (s.session .U).resendUsed = false ∧
      (s.session .U).noAnswerUsed = false ∧ (s.session .U).outcome = none ∧
      ((s.onSession .U fun x => { x with resendUsed := true, noAnswerUsed := true }).session .U).resendUsed = true) ∧
    (let s := ready.onSession .U fun x => { x with state := .holdoff, display := some 1500000 }
     (s.session .U).display = some 1500000 ∧ (s.session .U).collision = none ∧ (s.session .U).state = .holdoff ∧
     s.journal.slot .U = []) ∧
    ((((exchanging .reading .read).onSession .U fun x => { x with twin := true }).session .U).twin = true) ∧
    tornEntry ∈ torn.recovery ∧ torn.now < tornEntry.honourDeadline ∧
    (let s : State := { torn with recovery := [], journal := { torn.journal with staging := [.mark 0 .uncertain (some tornEntry)] } }
     StagingEntry.mark 0 .uncertain (some tornEntry) ∈ s.journal.staging ∧
     (after (.honourWindowExpiry 5) s).now = 60000000) ∧
    (after (.honourWindowExpiry 6) torn).now = torn.now ∧ (after (.honourWindowExpiry 5) torn).now = 60000000 := by
  decide +kernel

/-- A session in AWAIT_INTENT whose record is being programmed. -/
def programming (kind : JournalKind) (owner : RecordOwner) : State :=
  let e : StagingEntry := .record (recordOf kind 8) 0 owner
  let s := (exchanging .awaitIntent .read).onSession .U fun x => { x with
    exchange := none, intentSeq := some 8,
    decision := some { image := image1, kind := .entry, unclosed := false, fare := 0, charge := 0, direction := .inbound,
                       minute := 13248500 } }
  { s with
    journal := { s.journal with staging := [e], positions := [assigned 0 8 .intent], writePos := 1, reservations := 1 },
    store := { s.store with op := some { action := e.action, owner := .staging, next := none, deadline := some 2000 } } }

theorem sent_of_write {s : State} {r : Reader} {img : List Byte} {n : Nat}
    (h : (s.session r).exchange = some (.write img n)) : s.cardWriteSent r := by simp [State.cardWriteSent, h]

theorem not_sent {s : State} {r : Reader} (h : (s.session r).exchange = none) : ¬ s.cardWriteSent r := by
  simp [State.cardWriteSent, h]

/-- The machine goes on. -/
def goesOn : Answer → Bool
  | .next _ => true
  | .fault _ => false
  | .refused _ => false

theorem exec_after {c : Instr} {s : State} (h : goesOn (exec c s) = true) : exec c s = .next (after c s) := by
  unfold after
  cases h' : exec c s <;> simp [goesOn, h'] at h ⊢

theorem programming_sends :
    goesOn (exec (.journalOperationComplete true) (programming .entry (.session .U))) = true ∧
    ((programming .entry (.session .U)).session .U).exchange = none ∧
    ((after (.journalOperationComplete true) (programming .entry (.session .U))).session .U).exchange =
      some (.write (encodeImage image1) 10) := by decide +kernel

theorem sends_after {c : Instr} {s : State} {r : Reader} {img : List Byte} {n : Nat} (h : goesOn (exec c s) = true)
    (g : (s.session r).exchange = none) (k : ((after c s).session r).exchange = some (.write img n)) :
    ∃ s t, exec c s = .next t ∧ t.cardWriteSent r ∧ ¬ s.cardWriteSent r :=
  ⟨s, after c s, exec_after h, sent_of_write k, not_sent g⟩

theorem witness_NoCardWriteBeforeItsIntent : ((exchanging .identifying .identify).session .U).identifyFits ∧
    ∃ s t, exec (.journalOperationComplete true) s = .next t ∧ t.cardWriteSent .U ∧ ¬ s.cardWriteSent .U :=
  ⟨fun _ => rfl, sends_after programming_sends.1 programming_sends.2.1 programming_sends.2.2⟩

/-! ## Witnesses: the aisle and the leaves -/

def measuring : Filtered := { raw := true, level := false, timer := some 10000 }

/-- Beam S and the emergency line about to be taken. -/
def filtering : State :=
  { ready with aisle := { ready.aisle with
      beamS := { line := measuring, stuck := false, measure := some 90000000 }, emergencyLine := measuring } }

theorem witness_FilteredLinesAndBeams :
    filtering.phase = .running ∧ (filtering.aisle.beam .S).line.timer = some 10000 ∧
    filtering.aisle.emergencyLine.timer = some 10000 ∧ (filtering.aisle.beam .S).line.raw = true ∧
    ((filtering.aisle.setBeam .A { filtering.aisle.beamA with line := measuring }).beam .A).line.timer = some 10000 := by decide

theorem test_emergency_line :
    (after .emergencyLineFilteredChange filtering).aisle.mode = .emergency ∧
    (after .emergencyLineFilteredChange filtering).drive.left.state = .opening := by decide +kernel

theorem witness_TrackerFollowsItsTable :
    trackRow ready.aisle.phase ready.aisle.leadPast true true = some (.inA, false, .start, .inbound) ∧
    (let s : State := { credited 1 with aisle := { (credited 1).aisle with phase := .inB, leadPast := true } }
     trackRow s.aisle.phase s.aisle.leadPast false false = some (.clear, false, .completion, .inbound) ∧
     trackRow s.aisle.phase s.aisle.leadPast true true = some (.inAB, true, .follower, .inbound) ∧
     (∃ c ∈ s.aisle.credits, c.state = .active ∧ c.direction = .inbound) ∧
     s.aisle.credits.countP (fun c => c.isActive && decide (c.direction = .inbound)) < 2) ∧
    ¬ (∃ c ∈ ready.aisle.credits, c.state = .active ∧ c.direction = .inbound) ∧
    ready.aisle.mode = .normal ∧ ready.aisle.claim = none ∧ (inMode .manual).aisle.mode = .manual ∧
    (inMode .outOfService).aisle.mode = .outOfService ∧ ready.journal.room 1 = true ∧
    (let l : LinkPort := { ready.link with mask := 0x40000000#32 }
     l.mask.getLsbD 30 = true ∧ l.output.length < 10) ∧
    (let a : Aisle := { ready.aisle with direction := .exitOnly }
     excludes a.direction .inbound = true ∧ excludes ready.aisle.direction .inbound = false) := by decide +kernel

/-- An unpaid passage through beam B's clearing: an EVASION record at reader P and an `npas` without a credit (R100, R101). -/
theorem test_evasion :
    let s : State := { ready with
      now := 2345999, link := { ready.link with mask := 0x40000000#32 },
      aisle := { ready.aisle with phase := .inB, leadPast := true, leadStart := some 2000000, claim := some .inbound } }
    let t := s.track false false
    t.aisle.phase = .clear ∧ t.aisle.claim = none ∧ t.aisle.unpaidCount = 1 ∧ t.link.flag .evasion = true ∧
    t.link.output = [.npas .inbound none none 345] ∧
    (t.journal.staging.map fun e => match e with
      | .record rec _ _ => (rec.kind, rec.reason)
      | _ => (.grant, 0)) = [(.evasion, 48)] := by decide +kernel

theorem witness_AisleTimersAndPendingSettings :
    (credited 1).aisle.window = .running 8000000 ∧ ((credited 1).aisle.credits.find? Credit.isActive).isSome = true ∧
    (credited 1).journal.room 1 = true ∧ (after .creditExpiry (credited 1)).aisle.anyActive = false ∧
    (let s : State := { ready with aisle := { ready.aisle with closeDelay := some 600000, passageLimit := some 12000000 } }
     s.aisle.closeDelay = some 600000 ∧ s.aisle.passageLimit = some 12000000 ∧ s.aisle.anyActive = false) ∧
    (filtering.aisle.beam .S).measure = some 90000000 ∧ (∀ x, (filtering.aisle.beam x).stuck = false) ∧
    (let s : State := { ready with settings := { ready.settings with pending := [6, 12] } }
     6 ∈ s.settings.pending ∧ s.mayTakeEffect 6 = true ∧ s.mayTakeEffect 12 = false ∧
     s.aisle.credits.length ≤ s.settings.stored.groupCredits ∧ s.aisle.phase = .clear ∧ s.drive.left.state = .closed ∧
     s.drive.right.state = .closed) ∧
    { ready with aisle := { ready.aisle with phase := .inA } }.aisle.phase ≠ .clear ∧
    (let s : State := { ready with aisle := { ready.aisle with pendingDirection := some .exitOnly } }
     s.aisle.pendingDirection = some .exitOnly ∧ s.aisle.phase = .clear ∧ s.drive.left.moving = false ∧
     s.drive.right.moving = false) := by
  refine ⟨?_, ?_, ?_, ?_, ?_, ?_, fun x => ?_, ?_, ?_, ?_⟩
  case refine_7 => cases x <;> rfl
  all_goals decide +kernel

/-- A leaf in a state under a bridge, with every timer of it running. -/
def moving (st : LeafState) (b : Bridge) (target : Target) : State :=
  let s := withLeft (fun l => { l with
    state := st, bridge := b, closedSwitch := ⟨false, false, none⟩, openSwitch := measuring, motionStart := some 0,
    deadtime := some 4, motionLimit := some 1500000, blanking := none, sampling := some 1000, brake := some 40000, reopen := some 1500000,
    window := List.replicate 8 5000 }) ready
  { s with drive := { s.drive with inForce := target } }

/-- A leaf that reaches its closed end 1.2 s after its drive began. -/
def closing : State :=
  withLeft (fun l => { l with
    state := .closing, bridge := .driveClose, closedSwitch := ⟨true, false, some 1200000⟩, motionStart := some 0 }) ready

theorem witness_EndSwitchesEndMotions :
    (∀ st ∈ [LeafState.opening, .closing, .open, .closed],
      let s := moving st .off .open
      s.phase = .running ∧ ((s.drive.leaf .left).switch .openEnd).timer = some 10000 ∧
      ((s.drive.leaf .left).switch .openEnd).raw = true ∧ (s.drive.leaf .left).closedSwitch.level = false ∧
      (s.drive.leaf .left).state = st ∧ (s.drive.leaf .left).reversal = false ∧ s.drive.inForce ≠ .closed) ∧
    (let s := withLeft (fun l => { l with openSwitch := measuring }) ready
     (s.drive.leaf .left).closedSwitch.level = true ∧ (s.drive.leaf .left).state ≠ .stalled) ∧
    (withLeft (fun l => { l with openSwitch := ⟨false, true, some 10000⟩, state := .open }) ready).drive.left.openSwitch.raw
      = false ∧ (closing.drive.left.switch .closedEnd).timer = some 1200000 ∧ closing.drive.left.openSwitch.level = false := by
  decide +kernel

/-- A capture at the closed end raises LEAF_SLOW above the threshold, and not at it (R120). -/
theorem test_leaf_slow :
    (after (.endSwitchFilteredChange .left .closedEnd) closing).link.flag .leafSlow = true ∧
    (after (.endSwitchFilteredChange .left .closedEnd) (withLeft (fun l => { l with motionStart := some 200000 }) closing)).link.flag
      .leafSlow = false := by decide +kernel

theorem test_leaf_arrives :
    (after (.endSwitchFilteredChange .left .openEnd) (moving .opening .driveOpen .open)).drive.left.state = .open ∧
    (after (.endSwitchFilteredChange .left .openEnd) (moving .opening .driveOpen .open)).drive.left.lastOpen = 10 := by
  decide +kernel

theorem witness_LeafTimersAndSamples :
    (∀ st ∈ [LeafState.opening, .closing, .braking, .open, .stalled],
      let s := moving st .off .closed
      s.phase = .running ∧ (s.drive.leaf .left).deadtime = some 4 ∧ (s.drive.leaf .left).brake = some 40000 ∧
      (s.drive.leaf .left).motionLimit = some 1500000 ∧ (s.drive.leaf .left).reopen = some 1500000 ∧
      (s.drive.leaf .left).state = st ∧ (s.drive.leaf .left).braked = false ∧ s.drive.inForce = .closed ∧
      (s.drive.leaf .left).bothActive = false ∧ s.aisle.beamS.line.level = false ∧ s.aisle.mode ≠ .emergency) ∧
    (let s := withLeft (fun l => { l with braked := true, action := some .stall, blanking := some 120000 })
       (moving .braking .off .closed)
     (s.drive.leaf .left).braked = true ∧ (s.drive.leaf .left).blanking = some 120000 ∧
     (s.drive.leaf .left).action = some .stall) ∧
    (let s := moving .closing .driveClose .closed
     let w := ((s.drive.leaf .left).window ++ [min 9000 8000]).drop ((s.drive.leaf .left).window.length - 7)
     (s.drive.leaf .left).bridge = .driveClose ∧ (s.drive.leaf .left).blanking = none ∧
     (s.drive.leaf .left).sampling = some 1000 ∧ (ready.drive.leaf .left).sampling = none ∧ w.length = 8 ∧
     s.settings.inForce.inrushBlanking < s.settings.inForce.motionLimit ∧
     s.settings.inForce.obstructionThreshold < w.sum / 8) ∧
    (inMode .emergency).aisle.mode = .emergency := by decide +kernel

theorem test_obstruction :
    (after (.currentSample .left 9000) (moving .closing .driveClose .closed)).drive.left.state = .braking ∧
    (after (.currentSample .left 9000) (moving .closing .driveClose .closed)).drive.left.count = 1 := by decide +kernel

theorem test_motion_limit :
    (after (.motionLimitExpiry .left) (moving .opening .driveOpen .open)).drive.left.action = some .stall := by
  decide +kernel

theorem witness_BridgeStatesFixTheirSwitches : ready.phase = .running := rfl

theorem test_bridge_output :
    (moving .opening .driveOpen .open).bridgeOutput .left .highA = some true ∧
    (moving .opening .driveOpen .open).bridgeOutput .left .lowA = some false := by decide +kernel

/-! ## Witnesses: the store -/

def jobbed (k : JobKind) (next : Option Nat) : State :=
  { ready with
    store := { ready.store with
      jobs := [{ kind := k, step := 0, running := true }],
      op := some { action := .program .recordProgram 0 [0], owner := .job, next := next, deadline := some 2000 } },
    journal := { ready.journal with staging := [.mark 0 .final none] } }

/-- A full sector 0, with a record of floor 0 in sector 2 and a floor in force. -/
def refreshing (floor : Nat) : State :=
  { ready with
    store := { Store.initial (Memory.program [] 8192 (encodeControl .floor 1 (floorBody 0))) with fill0 := 64, fill2 := 1 },
    journal := { ready.journal with floor := floor } }

theorem witness_ArbiterServesTheJournalFirst :
    ({ ready with supplyWarning := true }.supplyWarning = true ∧ State.reset.phase = .scanning) ∧
    { ready with phase := .off }.phase = .off ∧ (programming .entry .single).store.op.isSome = true ∧
    ready.store.op = none ∧ ready.supplyWarning = false ∧ ready.phase = .running ∧
    ready.journal.staging = [] ∧ ready.journal.eraseWork = .idle ∧ ready.journal.oldestWaiting = none ∧
    ready.store.jobs = [] ∧ (jobbed .logErase none).store.jobs = { kind := .logErase, step := 0, running := true } :: [] ∧
    (jobbed .logErase none).journal.staging = .mark 0 .final none :: [] ∧
    { ready.journal with sectors := [.waiting, .current], writePos := 64 }.oldestWaiting = some 0 ∧
    ((refreshing 0).sector0Step .identity [] 3).1 = .erase 0 := by decide +kernel

/-- A refresh whose step 1 was overtaken by a later floor puts the floor in force outside sector 0 before it erases it
(R172). -/
theorem test_refresh_keeps_the_floor :
    ((refreshing 0).sector0Step .identity [] 3).1.kind = .sectorErase ∧
    ((refreshing 9).sector0Step .identity [] 3).1.kind = .recordProgram := by decide +kernel

/-- A mark, a damaged mark, a floor program or a sector erase in progress. -/
def journalling (e : StagingEntry) (owner : OpOwner) (work : EraseWork) : State :=
  { programming .entry .single with
    journal := { (programming .entry .single).journal with staging := [e], eraseWork := work },
    store := { (programming .entry .single).store with
      op := some { action := e.action, owner := owner, next := none, deadline := some 500 } } }

theorem witness_JournalReportsAreTaken :
    (∀ owner ∈ [RecordOwner.single, .voidOwed, .session .U],
      let s := programming .entry owner
      s.phase = .running ∧ s.supplyWarning = false ∧ (s.store.op.map (·.owner)) = some .staging ∧
      s.journal.staging = .record (recordOf .entry 8) 0 owner :: [] ∧ s.journal.posOf 8 = some 0 ∧
      s.store.op.all (fun op => s.opSucceeds true op && !s.opSucceeds false op) = true ∧
      (s.session .U).state = .awaitIntent ∧ (s.session .U).intentSeq = some 8 ∧ (s.session .U).outcome = none) ∧
    (journalling (.mark 0 .uncertain (some tornEntry)) .staging .idle).journal.staging =
      .mark 0 .uncertain (some tornEntry) :: [] ∧
    (journalling (.damagedMark 0) .staging .idle).journal.staging = .damagedMark 0 :: [] ∧
    (let s := { journalling (.damagedMark 0) .floorWrite (.floor 1 8 1) with
       journal := { (journalling (.damagedMark 0) .floorWrite (.floor 1 8 1)).journal with staging := [] } }
     s.journal.eraseWork = .floor 1 8 1 ∧ s.journal.staging = [] ∧ (s.store.op.map (·.owner)) = some .floorWrite ∧
     (s.store.op.map (·.next)) = some none ∧ (s.store.op.map (·.deadline)) = some (some 500)) ∧
    ((refreshing 0).sector0Step .floor (floorBody 0) 1).1.sector = 2 ∧
    ((journalling (.damagedMark 0) (.journalErase 1) (.erase 1)).store.op.map (·.owner)) = some (.journalErase 1) := by
  decide +kernel

/-- The report that the store did the work leaves its bytes as asked: the program of the byte 0 at address 0, and no other byte
(R164). -/
theorem test_report_writes :
    (after (.lockEntryProgramComplete true) (jobbed .lockEntry none)).store.memory = [(0, 0x00#8)] ∧
    (after (.journalOperationComplete true) (journalling (.mark 0 .complete none) .staging .idle)).store.memory =
      [(159749, RecordStatus.complete.code)] := by decide +kernel

theorem test_record_programmed :
    (after (.journalOperationComplete true) (programming .entry (.session .U))).journal.staging = [] ∧
    ((after (.journalOperationComplete false) (programming .entry (.session .U))).session .U).outcome = some .writeFailed := by
  exact ⟨by decide +kernel, rfl⟩

/-- The last operation of an arm job, for a table that is effective from a minute on. -/
def arming (effective : Nat) : State :=
  { jobbed (.arm .A) none with
    loader := { ready.loader with staged := .arming (leBytes 4 6 ++ leBytes 4 effective) } }

theorem witness_JobReportsAreTaken :
    (∀ k ∈ [JobKind.control .key, .lockEntry, .deltaSlot 0 { add := true, number := 5, reason := 1, version := 1 },
        .hotRewrite [], .arm .A, .fareMark .A 1, .withdrawal .A, .denyBank .A, .denyMark .A 1, .logErase],
      ∀ next ∈ [none, some 1],
        let s := jobbed k next
        s.phase = .running ∧ s.supplyWarning = false ∧ s.store.jobs = { kind := k, step := 0, running := true } :: [] ∧
        (s.store.op.map fun o => (o.owner, o.next)) = some (.job, next) ∧ s.journal.staging ≠ [] ∧
        s.store.op.all (fun op => s.opSucceeds true op && !s.opSucceeds false op) = true) ∧
    (let due := fun (s : State) => decide (field s.loader.staged.image 4 4 ≤ s.clock.seconds / 60) && s.clock.valid &&
       s.atBoundary
     due (arming 13248500) = true ∧ due (arming 13248501) = false) ∧
    (let s := jobbed .logErase none
     { s with journal := { s.journal with staging := [] } }.journal.staging = [] ∧
     (s.store.jobs.map (·.running)) = [true] ∧ (s.store.op.map fun o => o.action.sector) = some 0) := by decide +kernel

/-- An arm that ends done activates its table in the same step when it is due, and else leaves it ARMED (R183, R186). -/
theorem test_arm_ends :
    (after (.armJobOperationComplete true) (arming 13248500)).fare.map (·.version) = some 6 ∧
    (after (.armJobOperationComplete true) (arming 13248501)).fare.map (·.version) = some 5 ∧
    (after (.armJobOperationComplete true) (arming 13248501)).loader.staged.isArmed = true := by decide +kernel

theorem test_lock_entry :
    (after (.lockEntryProgramComplete true) (jobbed .lockEntry none)).station.lock = .locked ∧
    (after (.lockEntryProgramComplete false) (jobbed .lockEntry none)).station.lock = .unlocked := by
  exact ⟨by decide +kernel, rfl⟩

/-- An ARMED table that is effective from a minute on, beside an active table and without one. -/
def armed (effective : Nat) : State :=
  { ready with loader := { ready.loader with staged := .armed (leBytes 4 6 ++ leBytes 4 effective) } }
def armedFirst : State := { armed 13248500 with fare := none }

/-- The same table while reader U decides, and while both do. -/
def armedDeciding : State := { deciding with loader := (armed 13248500).loader }
def bothDeciding : State := armedDeciding.onSession .P fun _ => armedDeciding.session .U

theorem witness_TableActivationAndDenyTest :
    (armed 13248500).phase = .running ∧ (armed 13248500).fareDue = true ∧ (armed 13248501).fareDue = false ∧
    (armed 13248500).loader.staged = .armed (leBytes 4 6 ++ leBytes 4 13248500) ∧
    (armed 13248500).fare ≠ none ∧ armedFirst.fare = none ∧ armedFirst.phase = .running ∧
    (armedDeciding.session .U).deciding = true ∧ (armedDeciding.session .P).deciding = false ∧
    (bothDeciding.session .U).deciding = true ∧ (bothDeciding.session .P).deciding = true ∧
    armedDeciding.loader.staged.isArmed = true ∧ armedDeciding.clock.valid = true ∧
    field armedDeciding.loader.staged.image 4 4 ≤ armedDeciding.clock.seconds / 60 ∧
    (armedFirst.session .U).state = .closed ∧ armedFirst.aisle.mode ≠ .outOfService ∧
    armedFirst.station.identity.isSome = true ∧ armedFirst.clock.valid = true ∧
    excludes armedFirst.aisle.direction (directionOfReader .U) = false ∧
    (let s : State := { ready with loader := { ready.loader with load := .staged, listVersion := 1 } }
     s.loader.load = .staged ∧ s.atBoundary = true ∧ s.check.denyVersion < s.loader.listVersion ∧
     s.loader.listVersion ≤ { s.check with denyVersion := 1 }.denyVersion) := by decide +kernel

/-- A table that falls due is active after the same step, and an open decision interval holds it back until its end (R185,
R186). -/
theorem test_falls_due :
    armedDeciding.testDue.fare.map (·.version) = some 5 ∧ (armed 13248501).testDue.fare.map (·.version) = some 5 ∧
    (armedDeciding.finish .U .noEntry 0 none).fare.map (·.version) = some 6 ∧
    (bothDeciding.finish .U .noEntry 0 none).fare.map (·.version) = some 5 ∧
    (after .fareTableActivation (armed 13248500)).fare.map (·.version) = some 6 ∧
    (armedFirst.testDue.session .U).state = .ready := by decide +kernel

theorem witness_StoreKeepsFormAndOtherBytes :
    (∃ t, exec (.lockEntryProgramComplete true) (jobbed .lockEntry none) = .next t) ∧
    (jobbed .lockEntry none).store.memory.wf = true ∧
    ∀ op, (jobbed .lockEntry none).store.op = some op → ¬ op.action.covers 1 := by
  refine ⟨⟨_, rfl⟩, rfl, ?_⟩
  rintro op ⟨⟩
  show ¬ (0 ≤ 1 ∧ 1 < 0 + 1)
  decide

theorem witness_StoreOperationsClearBits :
    Memory.wf [(8, 0x0F#8)] = true ∧ 8 ≤ 8 ∧ 8 < 8 + [0xF3#8].length ∧
    (Memory.carryOut [(8, 0x0F#8)] (.program .statusMark 8 [0xF3#8])).read 8 = 0x03#8 ∧
    (Memory.carryOut [(8, 0x0F#8)] (.erase 0)).read 8 = 0xFF#8 := by decide +kernel

/-! ## Witnesses: invariants, fares, images -/

theorem witness_LeavesStaySafe :
    ready.leavesSafe ∧ ready.drive.left.brakeFits ∧ ready.drive.right.brakeFits ∧ ∃ t, step ready = .next t := by
  refine ⟨⟨rfl, rfl, ?_, ?_⟩, ⟨?_, ?_⟩, ⟨?_, ?_⟩, ⟨_, rfl⟩⟩ <;> decide

theorem witness_ClaimStaysSound : (credited 4).aisle.claimSound ∧ ∃ t, step (credited 4) = .next t :=
  ⟨⟨by decide, by decide⟩, ⟨_, rfl⟩⟩

theorem witness_CollectionsStayBounded :
    outputSound (waiting 14).link.output ∧ sightingsSound (sighted 5).check.sightings ∧ recoverySound torn.recovery ∧
    ready.check.hotList.length ≤ 64 ∧ (queued 4).link.input.length ≤ 4 ∧
    (∃ t, exec .loiter ready = .next t ∧ t.phase = .running ∧ ready.phase = .running) ∧
    ready.phase = .running ∧ (∃ t, step ready = .next t) ∧ (credited 1).aisle.claimSound ∧
    (credited 1).aisle.credits.length ≤ max 1 (credited 1).settings.inForce.groupCredits ∧ ready.denyListsSound ∧
    (ready.check.hotList.map (·.number)).Nodup := by
  refine ⟨⟨?_, ?_, ?_⟩, ⟨?_, ?_⟩, ⟨?_, ?_⟩, ?_, ?_, ⟨_, rfl, rfl, rfl⟩, rfl, ⟨_, rfl⟩, ⟨?_, ?_⟩, ?_,
    ⟨?_, ?_, ?_, ?_, ?_⟩, ?_⟩ <;> decide

/-- The start-up scan, from which the bounds are carried into service: the state after reset, at the step that reads the hot
list too. -/
theorem witness_CollectionsStayBounded_scan :
    (atStep 6).phase = .scanning ∧ (atStep 6).restsOutsideService ∧ (atStep 6).aisle.claimSound ∧
    (atStep 6).aisle.credits.length ≤ max 1 (atStep 6).settings.inForce.groupCredits ∧ (atStep 6).denyListsSound ∧
    ((scanHotList (atStep 6).store.memory).map (·.number)).Nodup ∧ ready.restsOutsideService := by
  refine ⟨rfl, fun _ => ⟨rfl, rfl, rfl, rfl, rfl, rfl, rfl, ?_⟩, ⟨?_, ?_⟩, ?_, ⟨?_, ?_, ?_, ?_, ?_⟩, ?_, fun h => absurd rfl h⟩
  · intro r; cases r <;> exact ⟨rfl, rfl, rfl, rfl⟩
  all_goals decide +kernel

/-- A session that awaits the answer to its WRITE, with the reservation of its mark. -/
def owing : State :=
  let s := exchanging .writing (.write [] 10)
  { s.onSession .U (fun x => { x with intentSeq := some 8 }) with journal := { s.journal with reservations := 1 } }

theorem witness_staging : owing.phase = .running ∧ owing.stagingSound ∧ owing.owedMarks = 1 := by
  refine ⟨rfl, ⟨by decide, by decide, ?_, ?_, ⟨?_, ?_⟩, ⟨?_, ?_⟩⟩, by decide⟩
  · intro rec pos h; cases h
  · intro r rec h; cases h
  · intro rec h; cases h
  · intro _ e h; cases h; exact .inl rfl
  · intro rec h; cases h
  · intro h; cases h

theorem witness_FareStepRoundsToTheNearest :
    100 ∈ [1, 2, 5, 10, 20, 25, 50, 100] ∧ 100 ≤ 2 * (50 % 100) ∧ 2 * (49 % 100) < 100 ∧ 50000 ≤ 50000 := by decide

/-- The decision of a ruling that admits. -/
def decisionOf : Ruling → Option Decision
  | .accept d => some d
  | .refuse _ _ _ _ => none

theorem witness_AdmissionsRespectCapAndFloor :
    (decisionOf (entryDecision (caseAt 210 12 2 13248500 imageBefore))).map (·.direction) = some .inbound ∧
    ((decisionOf (exitDecision (caseAt 305 4 5 13248538 image1))).map fun d => (d.direction, d.image.passPresent)) =
      some (.outbound, 0) ∧
    (decisionOf (emergencyExitDecision (caseAt 305 4 5 13248538 image1))).map (·.kind) = some .emergencyExit ∧
    0 < (caseAt 305 4 5 13248538 image1).cap ∧
    (caseAt 305 4 5 13248538 { image1 with dayTotal := 1200 }).cap ≤
      (caseAt 305 4 5 13248538 { image1 with dayTotal := 1200 }).dayTotal ∧
    image1.trip = 1 ∧ imageBefore.trip ≠ 1 ∧ image2.lastExitStation = 305 ∧ caseTable.passbackInterval ≠ 0 ∧
    13248542 - image2.lastExitMinute < caseTable.passbackInterval ∧
    ¬ 13248543 - image2.lastExitMinute < caseTable.passbackInterval ∧ caseTable.penalty ≠ 0 ∧
    { caseTable with penalty := 0 }.penalty = 0 ∧ (-201 : Int) < -(caseTable.overdraft : Int) ∧ image2.trip = 2 ∧ image2.continuations < caseTable.maxContinuations ∧
    13248555 - image2.lastExitMinute ≤ caseTable.continuationWindow := by decide +kernel

/-- The exit without an open trip: NO_ENTRY when the table has no penalty, else the penalty, which the balance must bear
(R59, R66); the emergency exit's refusals (R63). -/
theorem test_exit_without_trip :
    exitDecision { caseAt 305 4 5 13248543 image2 with table := { caseTable with penalty := 0 } } = .refuse .noEntry 0 0 430 ∧
    shown (exitDecision (caseAt 305 4 5 13248543 image2)) = [870, 700, 1130, 700, 700, 0] ∧
    exitDecision (caseAt 305 4 5 13248543 { image2 with balance := 499 }) = .refuse .insufficient 700 700 430 ∧
    emergencyExitDecision (caseAt 305 4 5 13248543 image2) = .refuse .noEntry 0 0 430 ∧
    emergencyExitDecision (caseAt 305 4 5 13248538 { image1 with balance := -201 }) = .refuse .insufficient 0 0 0 := by
  decide +kernel

theorem witness_ScreeningComparesCounterAndStamp :
    (sighting 5).counter < 11 ∧ 9 < (sighting 5).counter ∧ (10 = (sighting 5).counter) ∧
    (sighting 5).stamp.station = 118 ∧ 119 ≠ (sighting 5).stamp.station := by decide

theorem witness_CardImageRoundTrip :
    imageInRange image4 = true ∧ image4.format = 1 ∧ imageConsistent image4 = true ∧ image4.journeyCharged ≤ 65535 ∧
    image4.serviceDay ≤ 65535 ∧ image4.dayTotal ≤ 65535 ∧ image4.passFirst ≤ 65535 ∧ image4.passLast ≤ 65535 := by
  decide +kernel

/-! ## Witnesses: leaves cleared, pushed off their ends, and after a brake -/

/-- A STALLED leaf away from both ends, under a target, with S as given. -/
def stalledUnder (target : Target) (blocked : Bool) : State :=
  let s := withLeft (fun l => { l with
    state := .stalled, closedSwitch := ⟨false, false, none⟩, count := 3, reversal := true, reopen := some 1500000 }) ready
  { s with drive := { s.drive with inForce := target },
           aisle := { s.aisle with beamS := { s.aisle.beamS with line := { s.aisle.beamS.line with level := blocked } } } }

theorem witness_LeafRequests_cleared :
    ∀ target blocked, (stalledUnder target blocked).drive.left.bothActive = false ∧
      (stalledUnder target blocked).drive.left.faulted = true ∧
      (stalledUnder target blocked).drive.inForce = target ∧
      (stalledUnder target blocked).aisle.beamS.line.level = blocked ∧
      (stalledUnder target blocked).aisle.mode ≠ .emergency ∧ (stalledUnder target blocked).phase = .running := by
  intro target blocked; cases target <;> cases blocked <;> decide

/-- `lclr` sends a leaf to the closed end under FREE, as an S reversal while S is blocked, and stops its reopen hold (R127). -/
theorem test_lclr_moves_the_leaf :
    (after (.clearLeafFaults (.fits ())) (stalledUnder .free false)).drive.left.state = .closing ∧
    (after (.clearLeafFaults (.fits ())) (stalledUnder .free false)).drive.left.reopen = none ∧
    (after (.clearLeafFaults (.fits ())) (stalledUnder .closed true)).drive.left.state = .opening ∧
    (after (.clearLeafFaults (.fits ())) (stalledUnder .closed true)).drive.left.reversal = true := by decide +kernel

/-- A leaf at rest in CLOSED or OPEN whose end switch is about to be taken as inactive. -/
def pushed (st : LeafState) (target : Target) (blocked : Bool) : State :=
  let off : Filtered := ⟨false, true, some 10000⟩
  let s := withLeft (fun l => { l with
    state := st, closedSwitch := if st = .closed then off else ⟨false, false, none⟩,
    openSwitch := if st = .open then off else ⟨false, false, none⟩ }) (stalledUnder target blocked)
  { s with drive := { s.drive with left := { s.drive.left with reopen := none, reversal := false } } }

theorem witness_EndSwitchesEndMotions_pushed :
    ∀ blocked, (((pushed .closed .closed blocked).drive.leaf .left).switch .closedEnd).timer = some 10000 ∧
      (((pushed .closed .closed blocked).drive.leaf .left).switch .closedEnd).raw = false ∧
      (pushed .closed .closed blocked).drive.left.state = .closed ∧ (pushed .closed .closed blocked).drive.inForce ≠ .free ∧
      (pushed .closed .closed blocked).drive.left.reopen = none ∧
      (pushed .closed .closed blocked).drive.left.openSwitch.level = false ∧
      (((pushed .open .free blocked).drive.leaf .left).switch .openEnd).raw = false ∧
      (pushed .open .free blocked).drive.left.state = .open ∧ (pushed .open .free blocked).drive.inForce = .free := by
  intro blocked; cases blocked <;> decide

/-- A leaf pushed off its end goes back, or FREE under FREE (R114, R115). -/
theorem test_pushed :
    (after (.endSwitchFilteredChange .left .closedEnd) (pushed .closed .closed false)).drive.left.state = .closing ∧
    (after (.endSwitchFilteredChange .left .closedEnd) (pushed .closed .closed true)).drive.left.state = .opening ∧
    (after (.endSwitchFilteredChange .left .openEnd) (pushed .open .free false)).drive.left.state = .free := by decide +kernel

/-- A leaf whose brake has ended, with its after-brake action. -/
def braked (a : AfterBrake) (target : Target) (openEnd closedEnd : Bool) : State :=
  withLeft (fun l => { l with
    braked := true, action := some a, reopen := none, openSwitch := ⟨openEnd, openEnd, none⟩,
    closedSwitch := ⟨closedEnd, closedEnd, none⟩ }) (moving .braking .off target)

theorem witness_LeafTimersAndSamples_actions :
    (∀ a ∈ [AfterBrake.open, .close, .free], ∀ e ∈ [(true, false), (false, true), (false, false)],
      (braked a .closed e.1 e.2).drive.left.braked = true ∧ (braked a .closed e.1 e.2).drive.left.action = some a ∧
      (braked a .closed e.1 e.2).drive.left.bothActive = false ∧ (braked a .closed e.1 e.2).drive.left.state = .braking ∧
      (braked a .closed e.1 e.2).drive.left.deadtime = some 4 ∧ (braked a .closed e.1 e.2).drive.left.reopen = none ∧
      (braked a .closed e.1 e.2).aisle.beamS.line.level = false) ∧
    (braked .open .open true false).drive.inForce ≠ .closed ∧ (braked .open .open true false).drive.left.reversal = false ∧
    (braked .free .free false false).drive.inForce = .free ∧
    (braked .open .open true false).drive.left.count < ready.settings.inForce.obstructionRetries := by decide

/-- The after-brake actions CLOSE and FREE (R117). -/
theorem test_after_brake :
    (after (.deadtimeExpiry .left) (braked .close .closed false true)).drive.left.state = .closed ∧
    (after (.deadtimeExpiry .left) (braked .close .closed false false)).drive.left.state = .closing ∧
    (after (.deadtimeExpiry .left) (braked .free .free false false)).drive.left.state = .free := by decide +kernel

/-! ## Witnesses: the ends of a write, the Recovery List's lifetime, and the refresh of the control sectors -/

theorem witness_endsUncertain :
    let s := writing .query .querying
    (s.session .U).intentSeq = some 8 ∧ s.journal.posOf 8 = some 0 ∧ (s.session .U).blockPath = false ∧
    (s.session .U).card = some (cardOf .active 10) ∧ (s.session .U).decision.isSome = true ∧ s.phase = .running ∧
    ((s.onSession .U fun x => { x with blockPath := true }).session .U).blockPath = true ∧
    ((s.onSession .U fun x => { x with resendUsed := true }).session .U).resendUsed = true := by decide +kernel

/-- A card removed in QUERYING, and a second lost QUERY, queue the UNCERTAIN mark with its entry and remove the credit (R18). -/
theorem test_uncertain_ends :
    let s := (writing .query .querying).onSession .U fun x => { x with resendUsed := true }
    let entry := ((s.session .U).prepared .U)
    entry.map (fun p => (p.number, p.before, p.after, p.seq)) = some (5, 10, 11, 8) ∧
    (after (.cardRemoved .zero) s).journal.staging = [.mark 0 .uncertain entry] ∧
    (after (.answerWindowExpiry .U) s).journal.staging = [.mark 0 .uncertain entry] ∧
    (after (.cardRemoved .zero) s).aisle.credits = [] ∧ (after (.answerWindowExpiry .U) s).aisle.credits = [] ∧
    (after (.writeAnswer .zero .rejected) (writing (.write (encodeImage image1) 10) .writing)).aisle.credits = [] := by
  decide +kernel

/-- The STOP of a COLLISION ends, and then the outcome's display (R9, R20). -/
theorem test_collision_display :
    let s := ready.onSession .U fun x => { x with state := .holdoff, collision := some 1500000, display := some 1600000 }
    (s.session .U).collision = some 1500000 ∧ (∀ d, (s.session .U).display = some d → 1500000 ≤ d) ∧
    ((after (.outcomeDisplayExpiry .U) s).session .U).collision = none ∧
    ((after (.outcomeDisplayExpiry .U) s).session .U).state = .holdoff ∧
    ((after (.outcomeDisplayExpiry .U) (after (.outcomeDisplayExpiry .U) s)).session .U).state = .ready := by
  refine ⟨rfl, fun d h => ?_, ?_⟩
  · have : d = 1600000 := (Option.some.inj h).symm
    omega
  · decide +kernel

/-- An entry over age does not enter the Recovery List, and a test drops one held with its mark (R77, R84). -/
theorem test_entry_over_age :
    let held := fun (minute : Nat) => journalling (.mark 0 .uncertain (some { tornEntry with minute := minute })) .staging .idle
    ({ held 13248470 with now := 0 }.minute - 13248470 ≤ (held 13248470).settings.inForce.recoveryLifetime) ∧
    ((held 13248469).settings.inForce.recoveryLifetime < (held 13248469).minute - 13248469) ∧
    (after (.journalOperationComplete true) (held 13248470)).recovery.length = 1 ∧
    (after (.journalOperationComplete true) (held 13248469)).recovery = [] ∧
    (held 13248469).testLifetimes.journal.staging = [.mark 0 .uncertain none] := by decide +kernel

/-- A full sector 2 alone holds the floor in force, and sector 0 is not full. -/
def floorIn2 (full0 : Nat) : State :=
  { ready with
    store := { Store.initial (Memory.program [] 8192 (encodeControl .floor 1 (floorBody 9))) with
      fill0 := full0, fill1 := 64, fill2 := 64, identityKept := some { station := 7, gate := 1, zone := 0 } },
    journal := { ready.journal with floor := 9 } }

theorem witness_ArbiterServesTheJournalFirst_floor :
    (floorIn2 3).journal.floor ≠ 0 ∧ (floorIn2 3).floorIn [2] = true ∧ (floorIn2 3).floorIn [0, 1] = false ∧
    (floorIn2 3).station.identity.isSome = true ∧ (floorIn2 3).station.lock ≠ .locked ∧ (floorIn2 3).store.fill0 ≤ 63 ∧
    ((floorIn2 64).sector0Step .identity [] 0).1 = .erase 0 := by decide +kernel

/-- A SETTINGS write to a full sector 2 puts the floor in force into sector 0 before the erase, and stage 5 writes the stored
identity, not the one in RAM (R171, R172). -/
theorem test_refresh_floor_and_identity :
    ((floorIn2 3).jobStep { kind := .control .settings, step := 0, running := true }).1.kind = .recordProgram ∧
    ((floorIn2 3).jobStep { kind := .control .settings, step := 0, running := true }).2 = some 0 ∧
    (({ floorIn2 3 with journal := ready.journal }).jobStep { kind := .control .settings, step := 0, running := true }).1
      = .erase 2 ∧
    ((floorIn2 3).sector0Step .floor (floorBody 9) 5).1 =
      .program .recordProgram (slotAddr 0 3) (encodeControl .identity 1 (identityBytes { station := 7, gate := 1, zone := 0 })) := by
  decide +kernel

end Sys2Proof.Tests
end

section
/-! Fares (chapter 3): the rounding of stage 3 (O57), and the entry, exit and emergency exit decisions with what each
admission writes (O58). -/

namespace Sys2Proof.Machine

/-! ## Stage 3: the fare step (R65) -/

theorem stepFare_add_mod_of_half_le {step f0 : Nat} (h : step ≤ 2 * (f0 % step)) :
    stepFare step f0 + f0 % step = f0 + step := by
  have := Nat.mod_le f0 step
  simp only [stepFare, if_pos h]
  omega

theorem stepFare_add_mod_of_lt_half {step f0 : Nat} (h : 2 * (f0 % step) < step) :
    stepFare step f0 + f0 % step = f0 := by
  have := Nat.mod_le f0 step
  simp only [stepFare, if_neg (Nat.not_le.2 h)]
  omega

theorem dvd_stepFare (step f0 : Nat) : step ∣ stepFare step f0 := by
  have hdown : step ∣ f0 - f0 % step := Nat.dvd_sub_mod f0
  simp only [stepFare]
  split
  · exact Nat.dvd_add hdown (Nat.dvd_refl step)
  · exact hdown

/-- The stepped fare is at most half a step away, and below by less than half. -/
theorem stepFare_within_half {step : Nat} (hs : 0 < step) (f0 : Nat) :
    2 * stepFare step f0 ≤ 2 * f0 + step ∧ 2 * f0 < 2 * stepFare step f0 + step := by
  have hr := Nat.mod_lt f0 hs
  rcases Nat.lt_or_ge (2 * (f0 % step)) step with h | h
  · have := stepFare_add_mod_of_lt_half h
    omega
  · have := stepFare_add_mod_of_half_le h
    omega

/-- Two different multiples are at least a step apart. -/
theorem add_le_of_dvd_of_lt {step m n : Nat} (hm : step ∣ m) (hn : step ∣ n) (h : m < n) : m + step ≤ n := by
  have := Nat.le_of_dvd (Nat.sub_pos_of_lt h) (Nat.dvd_sub hn hm)
  omega

theorem stepFare_nearest {step : Nat} (hs : 0 < step) (f0 : Nat) {n : Nat} (hn : step ∣ n) :
    (if f0 ≤ stepFare step f0 then stepFare step f0 - f0 else f0 - stepFare step f0) ≤
      (if f0 ≤ n then n - f0 else f0 - n) := by
  obtain ⟨hup, hdown⟩ := stepFare_within_half hs f0
  rcases Nat.lt_trichotomy (stepFare step f0) n with h | h | h
  · have := add_le_of_dvd_of_lt (dvd_stepFare step f0) hn h
    split <;> split <;> omega
  · exact Nat.le_of_eq (by rw [h])
  · have := add_le_of_dvd_of_lt hn (dvd_stepFare step f0) h
    split <;> split <;> omega

/-- A fare up to a multiple of the step is not rounded past it. -/
theorem stepFare_le_of_dvd {step : Nat} (hs : 0 < step) {f0 n : Nat} (hn : step ∣ n) (h : f0 ≤ n) :
    stepFare step f0 ≤ n := by
  refine Nat.le_of_not_lt fun hlt => ?_
  have := add_le_of_dvd_of_lt hn (dvd_stepFare step f0) hlt
  have := (stepFare_within_half hs f0).1
  omega

theorem stepFare_one (f0 : Nat) : stepFare 1 f0 = f0 := by
  have := stepFare_within_half Nat.one_pos f0
  omega

/-- Every permitted fare step divides the greatest nominal fare. -/
theorem permitted_step_pos_and_dvd :
    ∀ step ∈ [1, 2, 5, 10, 20, 25, 50, 100], 0 < step ∧ step ∣ 50000 := by
  decide

/-- Settles O57: the stepped fare is a multiple within half a step, and other multiples are a whole step away from it. -/
theorem fareStepRoundsToTheNearest : Obligations.FareStepRoundsToTheNearest := by
  intro step f0 hmem
  obtain ⟨hs, hdvd⟩ := permitted_step_pos_and_dvd step hmem
  refine ⟨stepFare_add_mod_of_half_le, stepFare_add_mod_of_lt_half, Nat.mod_eq_zero_of_dvd (dvd_stepFare step f0),
    fun n hn => stepFare_nearest hs f0 (Nat.dvd_of_mod_eq_zero hn), stepFare_le_of_dvd hs hdvd, ?_, by decide, by decide⟩
  rintro rfl
  exact stepFare_one f0

/-! ## Stage 6: the daily cap (R68) -/

theorem capCharge_le (cap total d0 : Nat) : capCharge cap total d0 ≤ d0 := by
  unfold capCharge
  split
  · exact Nat.le_refl d0
  · split
    · exact Nat.zero_le d0
    · exact Nat.min_le_left ..

@[simp] theorem capCharge_zero (cap total : Nat) : capCharge cap total 0 = 0 :=
  Nat.le_zero.1 (capCharge_le cap total 0)

theorem capCharge_of_cap_le {cap total : Nat} (d0 : Nat) (hcap : 0 < cap) (h : cap ≤ total) :
    capCharge cap total d0 = 0 := by
  rw [capCharge, if_neg (Nat.ne_of_gt hcap), if_pos h]

/-- A charge fits the room under the cap. -/
theorem add_capCharge_le {cap : Nat} (total d0 : Nat) (hcap : 0 < cap) :
    total + capCharge cap total d0 ≤ max total cap := by
  rcases Nat.lt_or_ge total cap with h | h
  · rw [capCharge, if_neg (Nat.ne_of_gt hcap), if_neg (Nat.not_le.2 h)]
    omega
  · rw [capCharge_of_cap_le d0 hcap h]
    exact Nat.le_max_left ..

/-! ## The tests of the decisions (R54, R56, R59) -/

theorem FareCase.passback_iff (c : FareCase) : c.passback = true ↔
    c.image.trip = 1 ∧ c.image.originStation = c.here.station ∧ c.table.passbackInterval ≠ 0 ∧
      c.now - c.image.entryMinute < c.table.passbackInterval := by
  simp only [passback, Bool.and_eq_true, beq_iff_eq, bne_iff_ne, decide_eq_true_eq, and_assoc]
  exact Iff.rfl

theorem FareCase.continues_iff (c : FareCase) : c.continues = true ↔
    c.image.trip = 2 ∧ c.image.lastExitStation ≠ c.here.station ∧
      c.now - c.image.lastExitMinute ≤ c.table.continuationWindow ∧
      c.image.continuations < c.table.maxContinuations := by
  simp only [continues, Bool.and_eq_true, beq_iff_eq, bne_iff_ne, decide_eq_true_eq, and_assoc]
  exact Iff.rfl

theorem FareCase.alreadyExited_iff (c : FareCase) : c.alreadyExited = true ↔
    c.image.lastExitStation = c.here.station ∧ c.table.passbackInterval ≠ 0 ∧
      c.now - c.image.lastExitMinute < c.table.passbackInterval := by
  simp only [alreadyExited, Bool.and_eq_true, beq_iff_eq, bne_iff_ne, decide_eq_true_eq, and_assoc]
  exact Iff.rfl

/-! ## What a decision writes on the image (R5, R70) -/

/-- An image in format 1 with this gate's stamp, and with zero pass fields when the card has no pass (R5). -/
structure FareCase.Stamped (c : FareCase) (i : CardImage) : Prop where
  format : i.format = 1
  writer : i.writer = { station := c.here.station, gate := c.here.gate, minute := c.now }
  noPass : c.image.passPresent = 0 → i.passLow = 0 ∧ i.passHigh = 0 ∧ i.passFirst = 0 ∧ i.passLast = 0

theorem FareCase.blankImage_stamped (c : FareCase) : c.Stamped c.blankImage where
  format := rfl
  writer := rfl
  noPass h := by simp [blankImage, h]

theorem FareCase.withJourney_stamped {c : FareCase} {i : CardImage} (h : c.Stamped i) : c.Stamped (c.withJourney i) := by
  unfold withJourney
  split
  · exact ⟨h.format, h.writer, h.noPass⟩
  · exact ⟨h.format, h.writer, h.noPass⟩

/-- A charge booked under the daily cap and the overdraft floor, on the balance and the day total (R68 to R70). -/
structure FareCase.Booked (c : FareCase) (d : Decision) : Prop where
  charge   : ∃ d0 ≤ d.fare, d.charge = capCharge c.cap c.dayTotal d0
  balance  : d.image.balance = c.image.balance - d.charge
  floor    : -(c.table.overdraft : Int) ≤ d.image.balance
  day      : d.image.serviceDay = c.day
  dayTotal : d.image.dayTotal = min (c.dayTotal + d.charge) 65535

/-! ## The balance stage of an exit (R62, R69) -/

/-- The admission by which `closeTrip` closes a trip. -/
def FareCase.closing (c : FareCase) (kind : JournalKind) (fare charge : Nat) (i : CardImage) : Decision :=
  { image := { i with
      trip := 2, lastExitStation := c.here.station, lastExitMinute := c.now, balance := c.image.balance - charge,
      serviceDay := c.day, dayTotal := saturate (c.dayTotal + charge) },
    kind := kind, unclosed := false, fare := fare, charge := charge, direction := .outbound, minute := c.now }

section
variable {c : FareCase} {kind : JournalKind} {fare charge : Nat} {i : CardImage}

theorem FareCase.closeTrip_of_lt (h : c.image.balance - charge < -(c.table.overdraft : Int)) :
    c.closeTrip kind fare charge i = .refuse .insufficient fare charge c.dayTotal :=
  if_pos h

theorem FareCase.closeTrip_of_le (h : -(c.table.overdraft : Int) ≤ c.image.balance - charge) :
    c.closeTrip kind fare charge i = .accept (c.closing kind fare charge i) :=
  if_neg (Int.not_lt.2 h)

theorem FareCase.closeTrip_accepts {d : Decision} (h : c.closeTrip kind fare charge i = .accept d) :
    -(c.table.overdraft : Int) ≤ c.image.balance - charge ∧ d = c.closing kind fare charge i := by
  rcases Int.lt_or_le (c.image.balance - charge) (-(c.table.overdraft : Int)) with hlt | hle
  · rw [closeTrip_of_lt hlt] at h
    cases h
  · rw [closeTrip_of_le hle] at h
    cases h
    exact ⟨hle, rfl⟩

theorem FareCase.closing_stamped (h : c.Stamped i) : c.Stamped (c.closing kind fare charge i).image :=
  ⟨h.format, h.writer, h.noPass⟩

theorem FareCase.closing_booked {d0 : Nat} (hd0 : d0 ≤ fare) (hcharge : charge = capCharge c.cap c.dayTotal d0)
    (hfloor : -(c.table.overdraft : Int) ≤ c.image.balance - charge) :
    c.Booked (c.closing kind fare charge i) :=
  ⟨⟨d0, hd0, hcharge⟩, rfl, hfloor, rfl, rfl⟩

end

/-! ## The exit decisions, case by case (R59 to R63) -/

/-- The charge D1 of the exit of an open trip: D0 under the cap (R67, R68). -/
def FareCase.exitCharge (c : FareCase) : Nat := capCharge c.cap c.dayTotal (c.exitFare - c.image.journeyCharged)

/-- The charge of the penalty under the cap (R60). -/
def FareCase.penaltyCharge (c : FareCase) : Nat := capCharge c.cap c.dayTotal c.table.penalty

/-- The image of the penalty before its balance stage: a journey that begins and ends here (R60). -/
def FareCase.penaltyImage (c : FareCase) : CardImage :=
  { c.blankImage with
    originStation := c.here.station, originZone := c.here.zone, journeyStation := c.here.station,
    journeyZone := c.here.zone, entryMinute := c.now, journeyStart := c.now,
    band := bandFor c.table.schedule c.now, continuations := 0, journeyCharged := saturate c.penaltyCharge }

theorem FareCase.penaltyImage_stamped (c : FareCase) : c.Stamped c.penaltyImage :=
  ⟨c.blankImage_stamped.format, c.blankImage_stamped.writer, c.blankImage_stamped.noPass⟩

theorem FareCase.penalty_eq (c : FareCase) :
    c.penalty = c.closeTrip .penalty c.table.penalty c.penaltyCharge c.penaltyImage := rfl

section
variable {c : FareCase}

theorem exitDecision_of_open (h : c.image.trip = 1) :
    exitDecision c = c.closeTrip .exit c.exitFare c.exitCharge
      { c.blankImage with journeyCharged := saturate (c.image.journeyCharged + c.exitCharge) } :=
  if_pos h

theorem exitDecision_of_alreadyExited (h : c.image.trip ≠ 1) (hagain : c.alreadyExited = true) :
    exitDecision c = .refuse .alreadyExited 0 0 c.dayTotal := by
  rw [exitDecision, if_neg h, if_pos hagain]

theorem exitDecision_of_no_penalty (h : c.image.trip ≠ 1) (hagain : ¬ c.alreadyExited = true)
    (hpen : c.table.penalty = 0) : exitDecision c = .refuse .noEntry 0 0 c.dayTotal := by
  rw [exitDecision, if_neg h, if_neg hagain, if_pos hpen]

theorem exitDecision_of_penalty (h : c.image.trip ≠ 1) (hagain : ¬ c.alreadyExited = true)
    (hpen : c.table.penalty ≠ 0) :
    exitDecision c = c.closeTrip .penalty c.table.penalty c.penaltyCharge c.penaltyImage := by
  rw [exitDecision, if_neg h, if_neg hagain, if_neg hpen, c.penalty_eq]

theorem emergencyExitDecision_of_open (h : c.image.trip = 1) :
    emergencyExitDecision c = c.closeTrip .emergencyExit 0 0 c.blankImage :=
  if_pos h

theorem emergencyExitDecision_of_not_open (h : c.image.trip ≠ 1) :
    emergencyExitDecision c = .refuse .noEntry 0 0 c.dayTotal :=
  if_neg h

/-! ## The entry decision, case by case (R54 to R58) -/

/-- The fare and the charge of an entry: those of a trip left open (R55). -/
def FareCase.entryFare (c : FareCase) : Nat := if c.image.trip = 1 then c.unclosedFare c.image.journeyZone else 0
def FareCase.entryCharge (c : FareCase) : Nat := if c.image.trip = 1 then capCharge c.cap c.dayTotal c.entryFare else 0

/-- The balance of an entry lies below the floor, or below the entry minimum without a pass for this zone (R57). -/
def FareCase.poor (c : FareCase) : Prop :=
  c.image.balance - c.entryCharge < -(c.table.overdraft : Int) ∨
  (c.image.balance - c.entryCharge < (c.table.entryMinimum : Int) ∧ c.passCovers c.here.zone = false)

/-- The admission of the entry decision. -/
def FareCase.entering (c : FareCase) : Decision :=
  { image := { c.withJourney c.blankImage with
      trip := 1, originStation := c.here.station, originZone := c.here.zone, entryMinute := c.now,
      balance := c.image.balance - c.entryCharge, serviceDay := c.day,
      dayTotal := saturate (c.dayTotal + c.entryCharge) },
    kind := .entry, unclosed := decide (c.image.trip = 1), fare := c.entryFare, charge := c.entryCharge,
    direction := .inbound, minute := c.now }

theorem entryDecision_of_passback (h : c.passback = true) : entryDecision c = .refuse .passback 0 0 c.dayTotal :=
  if_pos h

theorem entryDecision_of_poor (hback : ¬ c.passback = true) (h : c.poor) :
    entryDecision c = .refuse .insufficient c.entryFare c.entryCharge c.dayTotal := by
  simp only [entryDecision, if_neg hback, beq_iff_eq]
  exact if_pos h

theorem entryDecision_of_not_poor (hback : ¬ c.passback = true) (h : ¬ c.poor) :
    entryDecision c = .accept c.entering := by
  simp only [entryDecision, if_neg hback, beq_iff_eq]
  exact if_neg h

theorem entryDecision_accepts {d : Decision} (h : entryDecision c = .accept d) : ¬ c.poor ∧ d = c.entering := by
  by_cases hback : c.passback = true
  · rw [entryDecision_of_passback hback] at h
    cases h
  by_cases hpoor : c.poor
  · rw [entryDecision_of_poor hback hpoor] at h
    cases h
  · rw [entryDecision_of_not_poor hback hpoor] at h
    cases h
    exact ⟨hpoor, rfl⟩

theorem FareCase.entryCharge_eq : c.entryCharge = capCharge c.cap c.dayTotal c.entryFare := by
  unfold entryCharge
  split
  · rfl
  · next h => rw [entryFare, if_neg h, capCharge_zero]

theorem FareCase.entering_booked (h : ¬ c.poor) : c.Booked c.entering where
  charge := ⟨c.entryFare, Nat.le_refl _, entryCharge_eq⟩
  balance := rfl
  floor := Int.not_lt.1 fun hlt => h (.inl hlt)
  day := rfl
  dayTotal := rfl

theorem FareCase.entering_stamped : c.Stamped c.entering.image :=
  have h := withJourney_stamped c.blankImage_stamped
  ⟨h.format, h.writer, h.noPass⟩

theorem FareCase.entering_of_continues (h : c.continues = true) :
    c.entering.image.continuations = c.image.continuations + 1 ∧
    c.entering.image.journeyStation = c.image.journeyStation ∧
    c.entering.image.journeyStart = c.image.journeyStart ∧
    c.entering.image.journeyCharged = c.image.journeyCharged ∧ c.entering.image.band = c.image.band := by
  simp [entering, withJourney, h, blankImage]

theorem FareCase.entering_of_not_continues (h : ¬ c.continues = true) :
    c.entering.image.continuations = 0 ∧ c.entering.image.journeyStation = c.here.station ∧
    c.entering.image.journeyZone = c.here.zone ∧ c.entering.image.journeyStart = c.now ∧
    c.entering.image.journeyCharged = 0 ∧ c.entering.image.band = bandFor c.table.schedule c.now := by
  simp [entering, withJourney, h]

end

/-! ## What every admission is -/

section
variable {c : FareCase} {d : Decision}

/-- An admission at an exit: a closed trip of one of the three kinds, its charge booked and its image stamped. -/
structure FareCase.Closes (c : FareCase) (d : Decision) : Prop where
  booked  : c.Booked d
  stamped : c.Stamped d.image
  closing : ∃ kind fare charge i, d = c.closing kind fare charge i ∧
    (kind = .exit ∨ kind = .penalty ∨ kind = .emergencyExit)

theorem FareCase.closes_of_closeTrip {kind : JournalKind} {fare charge d0 : Nat} {i : CardImage}
    (h : c.closeTrip kind fare charge i = .accept d) (hd0 : d0 ≤ fare) (hcharge : charge = capCharge c.cap c.dayTotal d0)
    (hi : c.Stamped i) (hkind : kind = .exit ∨ kind = .penalty ∨ kind = .emergencyExit) : c.Closes d := by
  obtain ⟨hfloor, rfl⟩ := closeTrip_accepts h
  exact ⟨closing_booked hd0 hcharge hfloor, closing_stamped hi, kind, fare, charge, i, rfl, hkind⟩

theorem exitDecision_closes (h : exitDecision c = .accept d) : c.Closes d := by
  by_cases hopen : c.image.trip = 1
  · rw [exitDecision_of_open hopen] at h
    have hi := c.blankImage_stamped
    exact FareCase.closes_of_closeTrip h (Nat.sub_le ..) rfl ⟨hi.format, hi.writer, hi.noPass⟩ (.inl rfl)
  by_cases hagain : c.alreadyExited = true
  · rw [exitDecision_of_alreadyExited hopen hagain] at h
    cases h
  by_cases hpen : c.table.penalty = 0
  · rw [exitDecision_of_no_penalty hopen hagain hpen] at h
    cases h
  · rw [exitDecision_of_penalty hopen hagain hpen] at h
    exact FareCase.closes_of_closeTrip h (Nat.le_refl _) rfl c.penaltyImage_stamped (.inr (.inl rfl))

theorem emergencyExitDecision_closes (h : emergencyExitDecision c = .accept d) : c.Closes d := by
  by_cases hopen : c.image.trip = 1
  · rw [emergencyExitDecision_of_open hopen] at h
    exact FareCase.closes_of_closeTrip h (Nat.le_refl 0) (capCharge_zero ..).symm c.blankImage_stamped (.inr (.inr rfl))
  · rw [emergencyExitDecision_of_not_open hopen] at h
    cases h

/-- An admission of one of the three decisions: that of an entry, or one that closes a trip. -/
inductive FareCase.Admits (c : FareCase) : Decision → Prop
  | enters (hpoor : ¬ c.poor) : c.Admits c.entering
  | closes {d : Decision} (h : c.Closes d) : c.Admits d

theorem FareCase.admits_of_accept
    (h : entryDecision c = .accept d ∨ exitDecision c = .accept d ∨ emergencyExitDecision c = .accept d) :
    c.Admits d := by
  rcases h with h | h | h
  · obtain ⟨hpoor, rfl⟩ := entryDecision_accepts h
    exact .enters hpoor
  · exact .closes (exitDecision_closes h)
  · exact .closes (emergencyExitDecision_closes h)

theorem FareCase.Admits.booked (h : c.Admits d) : c.Booked d := by
  cases h with
  | enters hpoor => exact entering_booked hpoor
  | closes h => exact h.booked

theorem FareCase.Admits.stamped (h : c.Admits d) : c.Stamped d.image := by
  cases h with
  | enters => exact entering_stamped
  | closes h => exact h.stamped

theorem FareCase.Admits.inbound (h : c.Admits d) (hdir : d.direction = .inbound) :
    d.image.trip = 1 ∧ d.kind = .entry := by
  cases h with
  | enters => exact ⟨rfl, rfl⟩
  | closes h =>
    obtain ⟨kind, fare, charge, i, rfl, -⟩ := h.closing
    cases hdir

theorem FareCase.Admits.outbound (h : c.Admits d) (hdir : d.direction = .outbound) :
    d.image.trip = 2 ∧ d.image.lastExitStation = c.here.station ∧ d.image.lastExitMinute = c.now ∧
    (d.kind = .exit ∨ d.kind = .penalty ∨ d.kind = .emergencyExit) := by
  cases h with
  | enters => cases hdir
  | closes h =>
    obtain ⟨kind, fare, charge, i, rfl, hkind⟩ := h.closing
    exact ⟨rfl, rfl, rfl, hkind⟩

/-- A booked charge against its fare and the room under the cap. -/
theorem FareCase.Booked.charge_bounds (h : c.Booked d) :
    d.charge ≤ d.fare ∧ (0 < c.cap → c.dayTotal + d.charge ≤ max c.dayTotal c.cap) ∧
    (0 < c.cap → c.cap ≤ c.dayTotal → d.charge = 0) := by
  obtain ⟨d0, hd0, hcharge⟩ := h.charge
  rw [hcharge]
  exact ⟨Nat.le_trans (capCharge_le ..) hd0, add_capCharge_le _ _, capCharge_of_cap_le d0⟩

end

/-! ## Admissions and floor refusals of the exits, as O58 states them -/

section
variable {c : FareCase}

theorem exitDecision_of_open_admits (hopen : c.image.trip = 1)
    (hfloor : -(c.table.overdraft : Int) ≤ c.image.balance - c.exitCharge) :
    ∃ d, exitDecision c = .accept d ∧ d.kind = .exit ∧ d.fare = c.exitFare ∧ d.charge = c.exitCharge ∧
      d.image.journeyCharged = min (c.image.journeyCharged + c.exitCharge) 65535 :=
  ⟨_, (exitDecision_of_open hopen).trans (FareCase.closeTrip_of_le hfloor), rfl, rfl, rfl, rfl⟩

theorem exitDecision_of_penalty_admits (hopen : c.image.trip ≠ 1) (hagain : ¬ c.alreadyExited = true)
    (hpen : c.table.penalty ≠ 0) (hfloor : -(c.table.overdraft : Int) ≤ c.image.balance - c.penaltyCharge) :
    ∃ d, exitDecision c = .accept d ∧ d.kind = .penalty ∧ d.fare = c.table.penalty ∧ d.charge = c.penaltyCharge :=
  ⟨_, (exitDecision_of_penalty hopen hagain hpen).trans (FareCase.closeTrip_of_le hfloor), rfl, rfl, rfl⟩

theorem emergencyExitDecision_of_lt (hopen : c.image.trip = 1) (h : c.image.balance < -(c.table.overdraft : Int)) :
    emergencyExitDecision c = .refuse .insufficient 0 0 c.dayTotal :=
  (emergencyExitDecision_of_open hopen).trans (FareCase.closeTrip_of_lt (by omega))

theorem emergencyExitDecision_of_le (hopen : c.image.trip = 1) (h : -(c.table.overdraft : Int) ≤ c.image.balance) :
    ∃ d, emergencyExitDecision c = .accept d ∧ d.kind = .emergencyExit ∧ d.fare = 0 ∧ d.charge = 0 ∧
      d.image.balance = c.image.balance ∧ d.image.journeyCharged = c.image.journeyCharged :=
  ⟨_, (emergencyExitDecision_of_open hopen).trans (FareCase.closeTrip_of_le (by omega)), rfl, rfl, rfl,
    Int.sub_zero _, rfl⟩

end

/-- Settles O58: each admission is booked and stamped, and each decision follows its equation for the case.  The statement's
fares and totals are the model's `exitFare`, `entryFare`, `capCharge` and `dayTotal` written out. -/
theorem admissionsRespectCapAndFloor : Obligations.AdmissionsRespectCapAndFloor := by
  refine ⟨fun c d h => ?_, fun c => ⟨fun hopen => ?_, fun hopen => ?_, ?_, ?_, ?_, ?_, ?_, ?_⟩⟩
  · have hadmits := FareCase.admits_of_accept h
    have hbooked := hadmits.booked
    have hstamped := hadmits.stamped
    obtain ⟨hfare, hcap, hfull⟩ := hbooked.charge_bounds
    exact ⟨hfare, hbooked.balance, hbooked.floor, hcap, hfull, hbooked.day, hbooked.dayTotal, hstamped.format,
      hstamped.writer, hadmits.inbound, hadmits.outbound, hstamped.noPass⟩
  · exact ⟨fun hlt => (exitDecision_of_open hopen).trans (FareCase.closeTrip_of_lt hlt),
      exitDecision_of_open_admits hopen⟩
  · simp only [← c.alreadyExited_iff]
    exact ⟨exitDecision_of_alreadyExited hopen, exitDecision_of_no_penalty hopen,
      fun hagain hpen hlt => (exitDecision_of_penalty hopen hagain hpen).trans (FareCase.closeTrip_of_lt hlt),
      exitDecision_of_penalty_admits hopen⟩
  · exact emergencyExitDecision_of_not_open
  · exact emergencyExitDecision_of_lt
  · exact emergencyExitDecision_of_le
  · exact fun hback => entryDecision_of_passback (c.passback_iff.2 hback)
  · exact fun hback hpoor => entryDecision_of_poor (fun h => hback (c.passback_iff.1 h)) hpoor
  · intro hback hpoor
    exact ⟨c.entering, entryDecision_of_not_poor (fun h => hback (c.passback_iff.1 h)) hpoor,
      rfl, rfl, rfl, rfl, rfl, rfl, fun honward => FareCase.entering_of_continues (c.continues_iff.2 honward),
      fun honward => FareCase.entering_of_not_continues fun h => honward (c.continues_iff.1 h)⟩

end Sys2Proof.Machine
end

section
/-! Torn writes (R79 to R83): how the journal goes on over a session's records, and the settlement of a card's entry of the
Recovery List when its image is read (O36). -/

namespace Sys2Proof.Machine

variable {s : State}

/-! ## The journal goes on (R83, R151) -/

/-- The staging queue and the waiting line grow at their newest ends only, and nothing enters the staging queue past a line
that is not empty (R151). -/
structure Journal.GrowsBy (j : Journal) (staged : List StagingEntry) (waited : List Waiting) (k : Journal) : Prop where
  staging : k.staging = j.staging ++ staged
  waiting : k.waiting = j.waiting ++ waited
  behind  : j.waiting ≠ [] → staged = []

/-- A journal goes on from another, by whatever comes behind. -/
def Journal.Grows (j k : Journal) : Prop := ∃ staged waited, j.GrowsBy staged waited k

theorem Journal.GrowsBy.of_eq {j k : Journal} (hs : k.staging = j.staging) (hw : k.waiting = j.waiting) :
    j.GrowsBy [] [] k :=
  ⟨by simp [hs], by simp [hw], fun _ => rfl⟩

theorem Journal.Grows.of_eq {j k : Journal} (hs : k.staging = j.staging) (hw : k.waiting = j.waiting) : j.Grows k :=
  ⟨[], [], .of_eq hs hw⟩

theorem Journal.Grows.trans {j k m : Journal} (hjk : j.Grows k) (hkm : k.Grows m) : j.Grows m := by
  obtain ⟨staged, waited, hjk⟩ := hjk
  obtain ⟨staged', waited', hkm⟩ := hkm
  refine ⟨staged ++ staged', waited ++ waited', by simp [hkm.staging, hjk.staging], by simp [hkm.waiting, hjk.waiting],
    fun hline => ?_⟩
  have hline' : k.waiting ≠ [] := by simp [hjk.waiting, hline]
  simp [hjk.behind hline, hkm.behind hline']

/-- A record with what it takes on entering: its number, the station and the gate (R147). -/
def JournalRecord.numbered (rec : JournalRecord) (seq station gate : Nat) : JournalRecord :=
  { rec with seq := seq, station := station, gate := gate }

theorem State.enterRecord_staging (s : State) (rec : JournalRecord) (o : RecordOwner) :
    ∃ station gate, (s.enterRecord rec o).journal.staging =
      s.journal.staging ++ [.record (rec.numbered s.journal.nextSeq station gate) s.journal.writePos o] := by
  simp only [State.enterRecord, State.raiseJournalLevels_keeps, Journal.enter]
  exact ⟨_, _, rfl⟩

@[simp] theorem State.enterRecord_waiting (s : State) (rec : JournalRecord) (o : RecordOwner) :
    (s.enterRecord rec o).journal.waiting = s.journal.waiting := by
  simp only [State.enterRecord, State.raiseJournalLevels_keeps, Journal.enter, Journal.advance]
  split <;> rfl

theorem State.submitRecord_of_room {r : Reader} {rec : JournalRecord}
    (h : s.journal.waiting = [] ∧ s.journal.room 1 = true) : s.submitRecord r rec = s.enterRecord rec .single :=
  if_pos (by simpa using h)

theorem State.submitRecord_of_no_room {r : Reader} {rec : JournalRecord}
    (h : ¬ (s.journal.waiting = [] ∧ s.journal.room 1 = true)) : s.submitRecord r rec = s.joinLine r (.record rec) :=
  if_neg (by simpa using h)

section
variable {j : Journal}

theorem State.enterRecord_grows {rec : JournalRecord} {o : RecordOwner} (h : j.Grows s.journal)
    (hline : s.journal.waiting = []) : j.Grows (s.enterRecord rec o).journal := by
  obtain ⟨_, _, hstaging⟩ := s.enterRecord_staging rec o
  exact h.trans ⟨_, [], hstaging, by simp, absurd hline⟩

theorem State.joinLine_grows {r : Reader} {item : WaitItem} (h : j.Grows s.journal) :
    j.Grows (s.joinLine r item).journal :=
  h.trans ⟨[], [{ reader := r, item := item }], by simp, by simp, fun _ => rfl⟩

theorem State.submitRecord_grows {r : Reader} {rec : JournalRecord} (h : j.Grows s.journal) :
    j.Grows (s.submitRecord r rec).journal := by
  by_cases hroom : s.journal.waiting = [] ∧ s.journal.room 1 = true
  · rw [submitRecord_of_room hroom]
    exact enterRecord_grows h hroom.1
  · rw [submitRecord_of_no_room hroom]
    exact joinLine_grows h

theorem State.awaitIntent_grows {r : Reader} {rec : JournalRecord} (h : j.Grows s.journal) :
    j.Grows (s.awaitIntent r rec).journal := by
  simp only [awaitIntent]
  split
  · rename_i hroom
    simp only [enterIntent, numberCredit_keeps, onSession_keeps]
    exact enterRecord_grows (by simpa using h) (by simpa using (Bool.and_eq_true_iff.1 hroom).1)
  · exact joinLine_grows (by simpa using h)

theorem State.accept_grows {r : Reader} {d : Decision} (h : j.Grows s.journal) : j.Grows (s.accept r d).journal := by
  simp only [accept]
  split
  · exact awaitIntent_grows (by simpa using h)
  · split
    · exact awaitIntent_grows (by simpa using h)
    · simpa using h

theorem State.decideFare_grows {r : Reader} {card : CardId} {i : CardImage} (h : j.Grows s.journal) :
    j.Grows (s.decideFare r card i).journal := by
  unfold decideFare
  split
  · simpa using h
  · simp only []
    split
    · exact accept_grows (by simpa using h)
    · simp only [refuseFare, endSession_keeps]
      exact submitRecord_grows (by simpa using h)

/-- Screening and the decision queue a session's intent or its REFUSED record behind what stands in the journal. -/
theorem State.screenAndDecide_grows {r : Reader} {card : CardId} {i : CardImage} (h : j.Grows s.journal) :
    j.Grows (s.screenAndDecide r card i).journal := by
  simp only [screenAndDecide]
  split
  · exact awaitIntent_grows (by simpa using h)
  · exact decideFare_grows (by simpa using h)

theorem State.startStore_grows (h : j.Grows s.journal) : j.Grows s.startStore.journal :=
  h.trans (.of_eq (by simp) (by simp))

end

/-- A submitted record is made as the session's record, whatever number, station and gate it takes and whatever comes behind
it. -/
theorem State.makesRecord_of_growsBy {t : State} {r : Reader} {rec : JournalRecord} {good : JournalRecord → Prop}
    {staged : List StagingEntry} {waited : List Waiting} (hgood : good rec)
    (hnumbered : ∀ seq station gate, good (rec.numbered seq station gate))
    (h : (s.submitRecord r rec).journal.GrowsBy staged waited t.journal) : s.makesRecord t r staged waited good := by
  by_cases hroom : s.journal.waiting = [] ∧ s.journal.room 1 = true
  · rw [submitRecord_of_room hroom] at h
    obtain ⟨station, gate, hstaging⟩ := s.enterRecord_staging rec .single
    refine ⟨_, hnumbered s.journal.nextSeq station gate, ?_⟩
    rw [if_pos hroom]
    exact ⟨rfl, by simp [h.waiting, hroom.1], s.journal.writePos, by simp [h.staging, hstaging]⟩
  · rw [submitRecord_of_no_room hroom] at h
    have hstaged : staged = [] := h.behind (by simp)
    refine ⟨rec, hgood, ?_⟩
    rw [if_neg hroom]
    exact ⟨by simp [h.staging, hstaged], by simp [h.waiting]⟩

/-! ## The end of a session (R20) -/

@[simp] theorem State.notify_session (s : State) (b : Nat) (m : OutMessage) (r : Reader) :
    (s.notify b m).session r = s.session r := rfl

@[simp] theorem State.startStore_session (s : State) (r : Reader) : s.startStore.session r = s.session r := by
  simp only [session, startStore_keeps]

/-- A session in HOLDOFF does not follow R7. -/
theorem State.followReaders_holdoff {r : Reader} (h : (s.session r).state = .holdoff) :
    s.followReaders.session r = s.session r := by
  have hfollow : ∀ shut, (s.session r).follow shut = s.session r := fun shut => by simp [Session.follow, h]
  cases r <;> exact hfollow _

theorem State.testDue_holdoff {r : Reader} (h : (s.session r).state = .holdoff) :
    s.testDue.session r = s.session r := by
  obtain ⟨_, _, hdue⟩ | ⟨_, hdue⟩ := s.testDue_cases <;> rw [hdue]
  simp only [activateFare]
  split
  · exact followReaders_holdoff h
  · rfl

/-- A session that ends is in HOLDOFF with its outcome. -/
theorem State.endSession_session (s : State) (r : Reader) (o : CardOutcome) :
    ((s.endSession r o).session r).state = .holdoff ∧ ((s.endSession r o).session r).outcome = some o := by
  simp only [endSession, finish]
  split
  · rw [testDue_holdoff] <;> simp
  · simp

/-! ## A granted credit (R91, R92) -/

@[simp] theorem State.addCredit_writes (s : State) (c : Credit) :
    (s.addCredit c).aisle.credits = s.aisle.credits ++ [c] ∧ (s.addCredit c).aisle.claim = some c.direction := by
  simp only [addCredit]
  split <;> simp

/-! ## The settlement (R79 to R82) -/

theorem State.dropRecovery_gone (s : State) (number : Nat) : ∀ x ∈ (s.dropRecovery number).recovery, x.number ≠ number := by
  simp [dropRecovery]

theorem State.settleDone_gone (s : State) (e : RecoveryEntry) : ∀ x ∈ (s.settleDone e).recovery, x.number ≠ e.number :=
  dropRecovery_gone _ _

/-- What a settlement's RESOLVED record says: the settlement, the entry's record, the card and both counters (R83). -/
def JournalRecord.resolves (rec : JournalRecord) (r : Reader) (card : CardId) (e : RecoveryEntry) (reason : Nat) : Prop :=
  rec.kind = .resolved ∧ rec.reason = reason ∧ rec.reader = r ∧ rec.referenced = some e.seq ∧ rec.number = card.number ∧
  rec.cls = card.cls ∧ rec.counterBefore = e.before ∧ rec.counterAfter = card.counter ∧ rec.fare = 0 ∧ rec.charged = 0

theorem State.resolvedRecord_resolves (s : State) (r : Reader) (card : CardId) (i : CardImage) (e : RecoveryEntry)
    (k : Settlement) : (s.resolvedRecord r card i e k).resolves r card e k.code := by
  and_intros <;> rfl

theorem JournalRecord.resolves.numbered {rec : JournalRecord} {r : Reader} {card : CardId} {e : RecoveryEntry}
    {reason : Nat} (h : rec.resolves r card e reason) (seq station gate : Nat) :
    (rec.numbered seq station gate).resolves r card e reason := h

theorem State.recoveryFor_number {number : Nat} {e : RecoveryEntry} (h : s.recoveryFor number = some e) :
    e.number = number := by
  simpa using List.find?_some h

theorem settlementOf_done {e : RecoveryEntry} {counter : Nat} {writer : Stamp} (hc : counter = e.after)
    (hw : writer = e.stamp) : settlementOf e counter writer = .done :=
  if_pos ⟨hc, hw⟩

theorem settlementOf_not_done {e : RecoveryEntry} {counter : Nat} {writer : Stamp}
    (h : counter ≠ e.after ∨ writer ≠ e.stamp) :
    settlementOf e counter writer = if counter = e.before then .void else .superseded :=
  if_neg fun ⟨hc, hw⟩ => h.elim (· hc) (· hw)

/-- The settlement earns an honoured admission: DONE, before the honour deadline, at the reader of the entry's direction
(R80). -/
def State.honours (s : State) (r : Reader) (card : CardId) (i : CardImage) (e : RecoveryEntry) : Prop :=
  settlementOf e card.counter i.writer = .done ∧ s.now < e.honourDeadline ∧ e.direction = directionOfReader r

section
variable {r : Reader} {card : CardId} {i : CardImage} {e : RecoveryEntry}

/-- A settlement that earns no honoured admission submits its RESOLVED record and removes the entry; screening follows. -/
theorem State.checkRecovery_unhonoured (he : s.recoveryFor card.number = some e) (h : ¬ s.honours r card i e) :
    ∃ u : State, s.checkRecovery r card i = u.screenAndDecide r card i ∧
      u.journal = (s.submitRecord r (s.resolvedRecord r card i e (settlementOf e card.counter i.writer))).journal ∧
      ∀ x ∈ u.recovery, x.number ≠ e.number := by
  by_cases hdone : settlementOf e card.counter i.writer = .done
  · have hlate : ¬ (s.now < e.honourDeadline ∧ e.direction = directionOfReader r) := fun hin => h ⟨hdone, hin⟩
    refine ⟨(s.submitRecord r (s.resolvedRecord r card i e .done)).settleDone e, ?_, by simp [hdone], settleDone_gone _ e⟩
    simp [checkRecovery, he, hdone, hlate]
  · refine ⟨(s.submitRecord r (s.resolvedRecord r card i e (settlementOf e card.counter i.writer))).dropRecovery e.number,
      ?_, by simp, dropRecovery_gone _ _⟩
    simp [checkRecovery, he, hdone]

theorem State.checkRecovery_honoured (he : s.recoveryFor card.number = some e) (h : s.honours r card i e) :
    s.checkRecovery r card i = s.honour r card i e := by
  obtain ⟨hdone, hin⟩ := h
  simp [checkRecovery, he, hdone, hin]

theorem State.honour_of_emergency (h : s.aisle.mode = .emergency) : s.honour r card i e =
    ((s.submitRecord r (s.resolvedRecord r card i e .done)).settleDone e).endSession r .honoured :=
  if_pos h

theorem State.honour_of_granted (hmode : s.aisle.mode ≠ .emergency) (hroom : s.journal.room 1 = true)
    (hclaim : s.askClaim e.direction = .granted) : s.honour r card i e =
    (((s.enterRecord (s.resolvedRecord r card i e .done) .single).settleDone e).addCredit
      { direction := e.direction, source := .card, state := .active, seq := some s.journal.nextSeq,
        reader := some r }).endSession r .honoured := by
  simp [honour, hmode, hroom, hclaim]

theorem State.honour_of_busy (hmode : s.aisle.mode ≠ .emergency)
    (h : s.journal.room 1 = false ∨ s.askClaim e.direction ≠ .granted) :
    s.honour r card i e = s.endSession r .aisleBusy := by
  rcases h with hroom | hclaim
  · simp [honour, hmode, hroom]
  · simp [honour, hmode, hclaim]

/-- Without an honoured admission the entry is gone, and the RESOLVED record comes before what screening and the decision
queue. -/
theorem State.unhonoured_settles (he : s.recoveryFor card.number = some e) (h : ¬ s.honours r card i e) :
    (∀ x ∈ (s.checkRecovery r card i).startStore.recovery, x.number ≠ card.number) ∧
    ∃ staged waited, s.makesRecord (s.checkRecovery r card i).startStore r staged waited
      (·.resolves r card e (settlementOf e card.counter i.writer).code) := by
  obtain ⟨u, hu, hjournal, hgone⟩ := checkRecovery_unhonoured he h
  have hrec := s.resolvedRecord_resolves r card i e (settlementOf e card.counter i.writer)
  obtain ⟨staged, waited, hgrows⟩ : u.journal.Grows (s.checkRecovery r card i).startStore.journal := by
    rw [hu]
    exact startStore_grows (screenAndDecide_grows (.of_eq rfl rfl))
  rw [hjournal] at hgrows
  refine ⟨?_, staged, waited, makesRecord_of_growsBy hrec hrec.numbered hgrows⟩
  rw [← recoveryFor_number he, hu]
  simpa using hgone

section
variable (he : s.recoveryFor card.number = some e) (h : s.honours r card i e)
include he h

/-- In EMERGENCY an honoured admission leaves the aisle, and its record is the session's only one (R81, R83). -/
theorem State.honoured_in_emergency (hmode : s.aisle.mode = .emergency) :
    let t := (s.checkRecovery r card i).startStore
    (t.session r).state = .holdoff ∧ (t.session r).outcome = some .honoured ∧
    (∀ x ∈ t.recovery, x.number ≠ card.number) ∧ t.aisle = s.aisle ∧
    s.makesRecord t r [] [] (·.resolves r card e (settlementOf e card.counter i.writer).code) := by
  let u := s.submitRecord r (s.resolvedRecord r card i e .done)
  rw [checkRecovery_honoured he h, honour_of_emergency hmode, h.1, ← recoveryFor_number he]
  have hrec := s.resolvedRecord_resolves r card i e .done
  refine ⟨?_, ?_, ?_, by simp, makesRecord_of_growsBy hrec hrec.numbered (.of_eq (by simp) (by simp))⟩
  · simpa using ((u.settleDone e).endSession_session r .honoured).1
  · simpa using ((u.settleDone e).endSession_session r .honoured).2
  · simpa using u.settleDone_gone e

/-- With room and the claim an honoured admission makes its ACTIVE credit with the number of its record (R81). -/
theorem State.honoured_with_claim (hmode : s.aisle.mode ≠ .emergency) (hroom : s.journal.room 1 = true)
    (hclaim : s.askClaim e.direction = .granted) :
    let t := (s.checkRecovery r card i).startStore
    (t.session r).state = .holdoff ∧ (t.session r).outcome = some .honoured ∧
    (∀ x ∈ t.recovery, x.number ≠ card.number) ∧ t.aisle.claim = some e.direction ∧
    t.aisle.credits = s.aisle.credits ++
      [{ direction := e.direction, source := .card, state := .active, seq := some s.journal.nextSeq,
         reader := some r }] ∧
    ∃ rec pos, t.journal.staging = s.journal.staging ++ [.record rec pos .single] ∧ rec.kind = .resolved ∧
      rec.reason = 32 ∧ rec.referenced = some e.seq ∧ rec.seq = s.journal.nextSeq := by
  let u := s.enterRecord (s.resolvedRecord r card i e .done) .single
  rw [checkRecovery_honoured he h, honour_of_granted hmode hroom hclaim, ← recoveryFor_number he]
  obtain ⟨station, gate, hstaging⟩ := s.enterRecord_staging (s.resolvedRecord r card i e .done) .single
  refine ⟨?_, ?_, ?_, by simp, by simp, _, _, by simpa using hstaging, rfl, rfl, rfl, rfl⟩
  · simpa using (State.endSession_session _ r .honoured).1
  · simpa using (State.endSession_session _ r .honoured).2
  · simpa using u.settleDone_gone e

/-- Without room or the claim the session ends AISLE_BUSY and the entry stays (R81). -/
theorem State.honoured_without_claim (hmode : s.aisle.mode ≠ .emergency)
    (hbusy : s.journal.room 1 = false ∨ s.askClaim e.direction ≠ .granted) :
    let t := (s.checkRecovery r card i).startStore
    (t.session r).state = .holdoff ∧ (t.session r).outcome = some .aisleBusy ∧ t.recovery = s.recovery ∧
    t.aisle = s.aisle ∧ t.check = s.check ∧ t.journal.nextSeq = s.journal.nextSeq ∧
    t.journal.staging = s.journal.staging := by
  rw [checkRecovery_honoured he h, honour_of_busy hmode hbusy]
  simp [endSession_session]

end

end

/-! ## The answer (R5, R14) -/

/-- The READ answer is taken: the session holds the image, and its exchange is answered. -/
def State.holdImage (s : State) (r : Reader) (i : CardImage) : State :=
  s.onSession r fun x => { x with image := some i, exchange := none, answerWindow := none }

/-- A good image goes to the Recovery List check. -/
theorem exec_readAnswer_good {l : Link} {image : List Byte} {card : CardId} (hrun : s.phase = .running)
    (hread : (s.session (s.readerAt l)).exchange = some .read) (hcard : (s.session (s.readerAt l)).card = some card)
    (htwin : (s.session (s.readerAt l)).twin = false) (hgood : imageGood image = true) :
    exec (.readAnswer l image) s = .next ((s.holdImage (s.readerAt l) (decodeImage image)).checkRecovery
      (s.readerAt l) card (decodeImage image)).startStore := by
  have htake : exec (.readAnswer l image) s = execReadAnswer l image s := by rfl
  simp [htake, execReadAnswer, State.onAnswer, State.whileRunning, hrun, hread, Exchange.isRead, State.readTaken, htwin,
    hgood, State.card, hcard, State.holdImage]

/-- Settles O36: the settlement is read off its table, and the image's answer is its Recovery List check, which submits the
RESOLVED record ahead of screening, or honours. -/
theorem tornWritesAreSettled : Obligations.TornWritesAreSettled := by
  refine ⟨fun e counter writer => ⟨settlementOf_done, fun h hb => ?_, fun h hb => ?_⟩, ?_⟩
  · rw [settlementOf_not_done h, if_pos hb]
  · rw [settlementOf_not_done h, if_neg hb]
  intro l image card e s hrun r hread hcard htwin hgood hentry done honours
  refine ⟨_, exec_readAnswer_good hrun hread hcard htwin hgood, ?_⟩
  have he : (s.holdImage r (decodeImage image)).recoveryFor card.number = some e := hentry
  exact ⟨State.unhonoured_settles he, State.honoured_with_claim he, State.honoured_without_claim he,
    State.honoured_in_emergency he⟩

end Sys2Proof.Machine
end

section
/-! The clock (section 7.3): the calendar of R133 and the seconds count as each other's inverse, the reply of `rtime`
(O11), a setting of the clock (O17), and the ticks and the loss of the backup supply (O29). -/

namespace Sys2Proof.Machine

variable {s : State}

/-! ## Counting whole units off a number (R133) -/

/-- The total length of the `k` units from `a` on. -/
def span (len : Nat → Nat) (a k : Nat) : Nat := ((List.range k).map fun i => len (a + i)).sum

theorem span_succ (len : Nat → Nat) (a k : Nat) : span len a (k + 1) = span len a k + len (a + k) := by
  simp [span, List.range_succ]

theorem span_succ_first (len : Nat → Nat) (a k : Nat) : span len a (k + 1) = len a + span len (a + 1) k := by
  simp [span, List.range_succ_eq_map, Function.comp_def, Nat.add_comm, Nat.add_left_comm]

theorem span_mono (len : Nat → Nat) (a : Nat) {k n : Nat} (h : k ≤ n) : span len a k ≤ span len a n := by
  induction h with
  | refl => exact Nat.le_refl _
  | step _ ih => rw [span_succ]; omega

section
variable {len : Nat → Nat} {a k n d : Nat}

/-- A place within one of the first `n` units lies before their end. -/
theorem span_add_lt (hk : k < n) (hd : d < len (a + k)) : span len a k + d < span len a n := by
  have hle := span_mono len a (Nat.succ_le_of_lt hk)
  rw [Nat.succ_eq_add_one, span_succ] at hle
  omega

/-- Every place before the end of the first `n` units lies within one of them. -/
theorem exists_of_lt_span (h : d < span len a n) : ∃ k < n, ∃ e < len (a + k), span len a k + e = d := by
  induction n with
  | zero => simp [span] at h
  | succ n ih =>
    by_cases hd : d < span len a n
    · obtain ⟨k, hk, e, he, hsum⟩ := ih hd
      exact ⟨k, by omega, e, he, hsum⟩
    · rw [span_succ] at h
      exact ⟨n, by omega, d - span len a n, by omega, by omega⟩

/-- Counting whole units off from `a` on: what `countYears` and `countMonths` both do. -/
def countUnits (len : Nat → Nat) : Nat → Nat → Nat → Nat × Nat
  | 0, a, d => (a, d)
  | fuel + 1, a, d => if d < len a then (a, d) else countUnits len fuel (a + 1) (d - len a)

theorem countYears_eq (fuel y d : Nat) : countYears fuel y d = countUnits yearLength fuel y d := by
  induction fuel generalizing y d with
  | zero => rfl
  | succ fuel ih => simp only [countYears, countUnits, ih]

theorem countMonths_eq (fuel y m d : Nat) : countMonths fuel y m d = countUnits (monthLength y) fuel m d := by
  induction fuel generalizing m d with
  | zero => rfl
  | succ fuel ih => simp only [countMonths, countUnits, ih]

/-- Counting off finds the unit of a place and the place within it. -/
theorem countUnits_span {fuel : Nat} (hk : k < fuel) (hd : d < len (a + k)) :
    countUnits len fuel a (span len a k + d) = (a + k, d) := by
  induction fuel generalizing a k with
  | zero => omega
  | succ fuel ih =>
    cases k with
    | zero => simp [span, countUnits, show d < len a from hd]
    | succ k =>
      have hunit : a + 1 + k = a + (k + 1) := by omega
      have hrest := ih (a := a + 1) (k := k) (by omega) (by rwa [hunit])
      have hpast : ¬ len a + span len (a + 1) k + d < len a := by omega
      rw [span_succ_first, countUnits, if_neg hpast, Nat.add_assoc, Nat.add_sub_cancel_left, hrest, hunit]

end

/-! ## The calendar (R133, R137) -/

/-- The twelve months make up the year. -/
theorem span_monthLength (y : Nat) : span (monthLength y) 1 12 = yearLength y := by
  by_cases h : leapYear y <;> simp [span, List.range, List.range.loop, monthLength, yearLength, h]

/-- The calendar's hundred years hold 36,524 days. -/
theorem span_yearLength : span yearLength 2000 100 = 36524 := by decide

/-- The ranges of R137's table. -/
theorem badDateField_eq_none {t : DateTime} : badDateField t = none ↔
    (2000 ≤ t.year ∧ t.year ≤ 2099) ∧ (1 ≤ t.month ∧ t.month ≤ 12) ∧
    (1 ≤ t.day ∧ t.day ≤ monthLength t.year t.month) ∧ t.hour ≤ 23 ∧ t.minute ≤ 59 ∧ t.second ≤ 59 := by
  unfold badDateField
  repeat' split
  all_goals
    simp only [reduceCtorEq, false_iff, true_iff]
    omega

/-- The day of its year, from 0. -/
def dayOfYear (t : DateTime) : Nat := span (monthLength t.year) 1 (t.month - 1) + (t.day - 1)

/-- The day of the calendar, from 0. -/
def dayNumber (t : DateTime) : Nat := span yearLength 2000 (t.year - 2000) + dayOfYear t

theorem countOf_eq (t : DateTime) :
    countOf t = 86400 * dayNumber t + (3600 * t.hour + 60 * t.minute + t.second) := by
  simp only [countOf, dayNumber, dayOfYear, span, Nat.add_comm 1]
  omega

section
variable {t : DateTime} (h : badDateField t = none)
include h

theorem dayOfYear_lt : dayOfYear t < yearLength t.year := by
  obtain ⟨_, hmonth, hday, _⟩ := badDateField_eq_none.1 h
  rw [← span_monthLength]
  exact span_add_lt (by omega) (by rw [show 1 + (t.month - 1) = t.month by omega]; omega)

theorem dayNumber_lt : dayNumber t < 36524 := by
  obtain ⟨hyear, _⟩ := badDateField_eq_none.1 h
  rw [← span_yearLength]
  refine span_add_lt (by omega) ?_
  rw [show 2000 + (t.year - 2000) = t.year by omega]
  exact dayOfYear_lt h

theorem countOf_le : countOf t ≤ 3155673599 := by
  obtain ⟨_, _, _, htime⟩ := badDateField_eq_none.1 h
  have hday := dayNumber_lt h
  rw [countOf_eq]
  omega

theorem countYears_dayNumber : countYears 100 2000 (dayNumber t) = (t.year, dayOfYear t) := by
  obtain ⟨hyear, _⟩ := badDateField_eq_none.1 h
  have hunit : 2000 + (t.year - 2000) = t.year := by omega
  rw [countYears_eq, dayNumber, countUnits_span (by omega) (by rw [hunit]; exact dayOfYear_lt h), hunit]

theorem countMonths_dayOfYear : countMonths 12 t.year 1 (dayOfYear t) = (t.month, t.day - 1) := by
  obtain ⟨_, hmonth, hday, _⟩ := badDateField_eq_none.1 h
  have hunit : 1 + (t.month - 1) = t.month := by omega
  rw [countMonths_eq, dayOfYear, countUnits_span (by omega) (by rw [hunit]; omega), hunit]

/-- The calendar values of a count are those it was counted from. -/
theorem calendarOf_countOf : calendarOf (countOf t) = t := by
  obtain ⟨_, _, hday, htime⟩ := badDateField_eq_none.1 h
  have hdays : countOf t / 86400 = dayNumber t := by rw [countOf_eq]; omega
  have hseconds : countOf t % 86400 = 3600 * t.hour + 60 * t.minute + t.second := by rw [countOf_eq]; omega
  simp only [calendarOf, hdays, hseconds, countYears_dayNumber h, countMonths_dayOfYear h]
  rw [DateTime.mk.injEq]
  omega

end

/-- Every count up to the clock limit is the count of a date and time within the ranges. -/
theorem exists_countOf_eq {n : Nat} (h : n ≤ 3155673599) : ∃ t, badDateField t = none ∧ countOf t = n := by
  have hcentury : n / 86400 < span yearLength 2000 100 := by rw [span_yearLength]; omega
  obtain ⟨y, hy, yday, hyday, hdays⟩ := exists_of_lt_span hcentury
  rw [← span_monthLength] at hyday
  obtain ⟨m, hm, mday, hmday, hyear⟩ := exists_of_lt_span hyday
  refine ⟨{ year := 2000 + y, month := 1 + m, day := mday + 1, hour := n % 86400 / 3600, minute := n % 3600 / 60,
            second := n % 60 }, badDateField_eq_none.2 (by dsimp only; omega), ?_⟩
  simp only [countOf_eq, dayNumber, dayOfYear, Nat.add_sub_cancel_left, Nat.add_sub_cancel, hyear, hdays]
  omega

/-- The calendar values of a count up to the clock limit are in their ranges, and count to it. -/
theorem calendarOf_spec {n : Nat} (h : n ≤ 3155673599) :
    badDateField (calendarOf n) = none ∧ countOf (calendarOf n) = n := by
  obtain ⟨t, ht, rfl⟩ := exists_countOf_eq h
  rw [calendarOf_countOf ht]
  exact ⟨ht, rfl⟩

/-! ## `rtime` (R139) -/

theorem exec_readTime (h : s.serves (.readTime (.fits ()))) :
    exec (.readTime (.fits ())) s = .next (s.replied 14#8 .done (.time s.timeReport)) := by
  have htake : exec (.readTime (.fits ())) s = execReadTime (.fits ()) s := by rfl
  rw [htake, execReadTime, takeRequest_fits s () h.2 h.1]
  rfl

/-- Settles O11: the report's calendar values are those of its count, which is the count they stand for. -/
theorem readTimeDescribesOneCount : Obligations.ReadTimeDescribesOneCount := by
  intro s hserves hlimit
  obtain ⟨hrange, hcount⟩ := calendarOf_spec hlimit
  exact ⟨s.timeReport, exec_readTime hserves, rfl, rfl, rfl, rfl, hrange, hcount, rfl, rfl, rfl⟩

/-! ## A setting of the clock (R77, R132) -/

/-- The lifetime test of the journal's held entries, at the state's fare minute. -/
theorem State.testHeld_withinLifetime (s : State) (j : Journal) :
    j.testHeld s.withinLifetime = j.heldWithin s.settings.inForce.recoveryLifetime s.minute := by
  unfold Journal.testHeld Journal.heldWithin
  congr 2
  funext x
  cases x <;> rfl

/-- The lifetime test, field by field. -/
theorem State.testLifetimes_eq (s : State) : s.testLifetimes = { s with
    recovery := s.recovery.filter fun e => decide (s.minute - e.minute ≤ s.settings.inForce.recoveryLifetime),
    journal := s.journal.heldWithin s.settings.inForce.recoveryLifetime s.minute } := by
  rw [← testHeld_withinLifetime]
  rfl

/-- A setting of the clock, field by field. -/
theorem State.setClock_eq (s : State) (n : Nat) (valid : Bool) : s.setClock n valid = { s with
    clock := { s.clock with seconds := n, valid := valid, boundary := s.now + 1000000 },
    recovery := s.recovery.filter fun e => decide (n / 60 - e.minute ≤ s.settings.inForce.recoveryLifetime),
    journal := s.journal.heldWithin s.settings.inForce.recoveryLifetime (n / 60) } :=
  testLifetimes_eq _

/-! ## `stime` (R137) -/

theorem exec_setTime {d : DateTime} (h : s.serves (.setTime (.fits d))) :
    exec (.setTime (.fits d)) s = .next (decideSetTime d s.dropFrame) := by
  have htake : exec (.setTime (.fits d)) s = execSetTime (.fits d) s := by rfl
  rw [htake, execSetTime, takeRequest_fits s d h.2 h.1]

theorem decideSetTime_badField {d : DateTime} {i : Nat} (h : badDateField d = some i) :
    decideSetTime d s = s.reply 12 .badValue (.badField i) := by
  simp only [decideSetTime, h]

section
variable {d : DateTime} (h : badDateField d = none)
include h

theorem decideSetTime_busy (hopen : s.atBoundary = false) : decideSetTime d s = s.reply 12 .busy .none := by
  simp [decideSetTime, h, hopen, State.answer]

theorem decideSetTime_done (hopen : s.atBoundary = true) : decideSetTime d s =
    ((s.reply 12 .done (.timeSet (countOf d) (countOf d / 60) s.clock.seconds s.clock.valid
      (if s.clock.valid then some ((countOf d : Int) - s.clock.seconds) else none))).setClock (countOf d)
        true).followReaders.testDue.startStore := by
  simp [decideSetTime, h, hopen, fareMinute]

end

/-! ## `atime` (R138) -/

theorem exec_alignTime (h : s.serves (.alignTime (.fits ()))) :
    exec (.alignTime (.fits ())) s = .next (decideAlignTime () s.dropFrame) := by
  have htake : exec (.alignTime (.fits ())) s = execAlignTime (.fits ()) s := by rfl
  rw [htake, execAlignTime, takeRequest_fits s () h.2 h.1]

theorem decideAlignTime_busy (h : s.clock.valid = false ∨ s.atBoundary = false) :
    decideAlignTime () s = s.reply 13 .busy .none := by
  rcases h with h | h <;> simp [decideAlignTime, h, State.answer]

theorem decideAlignTime_done (hvalid : s.clock.valid = true) (hopen : s.atBoundary = true) : decideAlignTime () s =
    ((s.reply 13 .done (.aligned (alignedCount s.clock.seconds) (alignedCount s.clock.seconds / 60)
      ((alignedCount s.clock.seconds : Int) - s.clock.seconds))).setClock (alignedCount s.clock.seconds)
        true).testDue.startStore := by
  simp [decideAlignTime, hvalid, hopen, fareMinute]

/-- The count is cut to its minute in the first half of a minute, and in the calendar's last minute. -/
theorem alignedCount_down {n : Nat} (h : n % 60 ≤ 29 ∨ n / 60 = 52594559) : alignedCount n + n % 60 = n := by
  have hdown : n % 60 < 30 ∨ fareMinute n = lastFareMinute := h.imp_left (by omega)
  rw [alignedCount, if_pos hdown]
  omega

/-- The count is carried to the next minute in the second half of every other minute. -/
theorem alignedCount_up {n : Nat} (h : 30 ≤ n % 60) (hlast : n / 60 ≠ 52594559) :
    alignedCount n + n % 60 = n + 60 := by
  have hup : ¬ (n % 60 < 30 ∨ fareMinute n = lastFareMinute) := not_or.2 ⟨by omega, hlast⟩
  rw [alignedCount, if_neg hup]
  omega

theorem alignedCount_mod (n : Nat) : alignedCount n % 60 = 0 := by
  unfold alignedCount
  split <;> omega

/-- Settles O17: `stime` takes the count of the given date and time, whose calendar values are those given, and `atime`
the aligned count. -/
theorem setAndAlignTime : Obligations.SetAndAlignTime := by
  refine ⟨fun d s hserves => ?_, fun s hserves => ?_⟩
  · rw [exec_setTime hserves]
    refine ⟨fun i hbad => ?_, fun hgood hopen => ?_, fun hgood hopen => ?_⟩
    · rw [decideSetTime_badField hbad]; rfl
    · rw [decideSetTime_busy (s := s.dropFrame) hgood hopen]; rfl
    · refine ⟨countOf d, countOf_le hgood, calendarOf_countOf hgood, ?_⟩
      rw [decideSetTime_done (s := s.dropFrame) hgood hopen, State.setClock_eq]
      rfl
  · rw [exec_alignTime hserves]
    refine ⟨fun hvalid => ?_, fun _ hopen => ?_, fun hvalid hopen => ?_⟩
    · rw [decideAlignTime_busy (s := s.dropFrame) (.inl hvalid)]; rfl
    · rw [decideAlignTime_busy (s := s.dropFrame) (.inr hopen)]; rfl
    · refine ⟨alignedCount s.clock.seconds, fun h => alignedCount_down (.inl h), alignedCount_up,
        fun _ h => alignedCount_down (.inr h), alignedCount_mod _, ?_⟩
      rw [decideAlignTime_done (s := s.dropFrame) hvalid hopen, State.setClock_eq, ← hvalid]
      rfl

/-! ## The tick (R132, R134) -/

/-- A tick of a clock that counts; an advance of the fare minute takes the lifetime and due tests. -/
theorem exec_secondTick (h : s.clock.loss = false ∨ s.phase.linkRuns = true) :
    let u := { s.reach s.clock.boundary with clock := s.clock.tick }
    exec .secondTick s = .next (if u.minute = s.minute then u else u.testLifetimes.testDue.startStore) := by
  have hcounts : (s.clock.loss && !s.phase.linkRuns) = false := by rcases h with h | h <;> simp [h]
  have htake : exec .secondTick s = execSecondTick s := by rfl
  simp [htake, execSecondTick, hcounts]

/-! ## The loss of the backup supply (R7, R24, R135) -/

@[simp] theorem LinkPort.enqueue_events (l : LinkPort) (m : OutMessage) : (l.enqueue m).events = l.events := by
  unfold enqueue startHead
  split <;> rfl

@[simp] theorem LinkPort.notify_events (l : LinkPort) (bit : Nat) (m : OutMessage) :
    (l.notify bit m).events = l.events := by
  unfold notify
  split
  · split
    · exact l.enqueue_events m
    · rfl
  · rfl

@[simp] theorem LinkPort.oweNatt_events (l : LinkPort) : l.oweNatt.events = l.events := by
  unfold oweNatt
  split
  · rfl
  · exact l.enqueue_events _

/-- An event that is raised has its flag set. -/
theorem LinkPort.flag_raise_self (l : LinkPort) (k : EventKind) : (l.raise k).flag k = true := by
  by_cases h : l.flag k = true
  · simp [raise, h]
  · have hset : (l.events ||| oneBit k.bit).getLsbD k.bit = true := by cases k <;> simp [oneBit, EventKind.bit]
    rw [raise, if_neg h, flag]
    split <;> simpa using hset

/-- An interruption raises no event: the session it ends is in no decision interval. -/
@[simp] theorem State.interrupt_events (s : State) (withholds : Bool) (r : Reader) :
    (s.interrupt withholds r).link.events = s.link.events := by
  have hends (h : (s.session r).state = .identifying ∨ (s.session r).state = .authenticating ∨
      (s.session r).state = .reading) : (s.endSession r .aborted).link.events = s.link.events := by
    simp [endSession, finish, Session.deciding_early _ h]
  unfold interrupt
  split
  case h_1 | h_2 | h_3 => rfl
  case h_4 h => exact hends (.inl h)
  case h_5 h => exact hends (.inr (.inl h))
  case h_6 h => exact hends (.inr (.inr h))
  case h_7 | h_8 | h_9 => split <;> simp

theorem Session.follow_shut (x : Session) : (x.follow true).state ≠ .ready := by
  cases h : x.state <;> simp [follow, h]

theorem State.followReaders_session (s : State) (r : Reader) :
    s.followReaders.session r = (s.session r).follow (s.readerShut r) := by
  cases r <;> rfl

/-- No reader is READY while the clock is INVALID. -/
theorem State.followReaders_not_ready (s : State) (h : s.clock.valid = false) (r : Reader) :
    (s.followReaders.session r).state ≠ .ready := by
  have hshut : s.readerShut r = true := by simp [readerShut, h]
  rw [followReaders_session, hshut]
  exact Session.follow_shut _

/-- A clock found INVALID in service raises CLOCK_INVALID and leaves no reader READY. -/
theorem State.clockFailed_invalid (s : State) (h : s.clock.valid = false) :
    s.clockFailed.link.flag .clockInvalid = true ∧ ∀ r, (s.clockFailed.session r).state ≠ .ready := by
  have hfails : s.clockFailed =
      (((s.raise .clockInvalid).interrupt false .U).interrupt false .P).followReaders := by simp [clockFailed, h]
  rw [hfails]
  refine ⟨?_, followReaders_not_ready _ (by simpa using h)⟩
  simpa [LinkPort.flag] using s.link.flag_raise_self .clockInvalid

theorem exec_backupSupplyLoss (s : State) : exec .backupSupplyLoss s = .next
    (if s.phase = .running ∧ s.clock.valid = true then s.loseClock.clockFailed else s.loseClock.followReaders) := by
  rfl

theorem State.loseClock_seconds (s : State) : s.loseClock.clock.seconds ≤ 3155673599 :=
  Nat.le_of_lt_succ (Nat.mod_lt _ (Nat.succ_pos _))

/-- Settles O29: a tick's new count takes the lifetime and due tests when its minute is new, and a lost clock's readers
follow R7. -/
theorem clockTicksAndLoss : Obligations.ClockTicksAndLoss := by
  refine ⟨fun s hcounts => ?_, fun s => ?_⟩
  · rw [exec_secondTick hcounts]
    refine ⟨fun hsame => ?_, fun hnew => ?_⟩
    · rw [if_pos (by exact hsame)]; rfl
    · rw [if_neg (by exact hnew), State.testLifetimes_eq]; rfl
  · refine ⟨_, exec_backupSupplyLoss s, ?_⟩
    split
    · refine ⟨by simp [State.loseClock], by simp [State.loseClock], by simpa using s.loseClock_seconds, ?_, ?_⟩
      · intro hinvalid _
        exact (s.loseClock.clockFailed_invalid (by simpa using hinvalid)).2
      · intro hinvalid _ _
        exact (s.loseClock.clockFailed_invalid (by simpa using hinvalid)).1
    · rename_i hquiet
      refine ⟨rfl, rfl, s.loseClock_seconds, ?_, ?_⟩
      · intro hinvalid _
        exact s.loseClock.followReaders_not_ready hinvalid
      · intro _ hvalid hrun
        exact absurd ⟨hrun, hvalid⟩ hquiet

end Sys2Proof.Machine
end
